-- ==== Sys2Proof/Word.lean ====
section
/-! DEFINITION. The plain data types every file shares: bytes, words, sparse tables and Ersan flits. -/

namespace Sys2Proof

/-- One byte. -/
abbrev Byte := BitVec 8
/-- An S-core word (R118). -/
abbrev Word := BitVec 32
/-- A sparse byte memory: addresses strictly rising, no entry equal to the default byte. -/
abbrev Mem := List (Nat × BitVec 8)
/-- A sparse table keyed by a number: keys strictly rising. -/
abbrev Tbl (α : Type) := List (Nat × α)

/-- An Ersan link flit with its fields read out (Table 12.2); the CRC is checked where the flit is received,
so a flit command carries a flit whose CRC is good (a bad one is BAD_CRC). -/
structure Flit where
  typ : Nat
  vl : Nat
  hops : Nat
  dst : Nat
  src : Nat
  xacc : Bool
  last : Bool
  txn : Nat
  keyA : Nat
  keyB : Nat
  keyC : Nat
  payload : List (BitVec 8)
  lseq : Nat
  lack : Nat
  creditVl : Nat
  credits : Nat
  /-- Symbols that forward error correction corrected in it as received (R300); no field of the wire. -/
  fec : Nat := 0
deriving DecidableEq, Repr, Inhabited

/-- The place of a 4-byte host access: an offset in BAR0, in the PF's BAR4, in configuration space (R375, R382), or in the PF's MSI-X table
and PBA, for which the spec names no BAR (R380; log entry 92). -/
inductive Place where
  | bar0 (off : Nat)
  | bar4 (off : Nat)
  | cfg (off : Nat)
  | msix (off : Nat)
deriving DecidableEq, Repr, Inhabited

/-- Its offset. -/
def Place.off : Place → Nat
  | .bar0 o => o
  | .bar4 o => o
  | .cfg o => o
  | .msix o => o

/-- The PCIe link as it stands: its state, 0 down, 1 L0, 2 L1, 3 other; its rate, 128 GT/s or 64 GT/s; its lanes (R372, R417). -/
structure LinkAs where
  st : Nat
  gen7 : Bool
  width : Nat
deriving DecidableEq, Repr, Inhabited

/-- What a tester does at the test access port (R420): the instruction it updates, the bit it shifts in on TDI if it shifts data, and the
output contacts that the boundary register drives low, bit 0 WAKE_N, 1 DONE_N, 2 FAULT_N, 3 ALERT_N, 4 SMBDAT. -/
structure ScanAs where
  ir : Nat
  tdi : Option Bool
  low : Nat
deriving DecidableEq, Repr, Inhabited

/-- A word written over SMBus, with the packet error code that follows it, if one does (R421, Table 16.4). -/
structure SmbWord where
  v : Nat
  pec : Option Nat
deriving DecidableEq, Repr, Inhabited

end Sys2Proof
end

