-- ==== Sys2Proof/Syntax.lean ====
section
/-! DEFINITION. The commands of the block: one constructor per row of spec/opcode_table.json.
S-core instruction rows carry the S-core number only: the word is the one the S-core fetches (R123). -/

namespace Sys2Proof

inductive Instr where
  /-- HOST_BAR2_WRITE (R216) -/
  | hostBar2Write (fn off : Nat) (relaxed : Bool) (data : List Byte)
  /-- HOST_BAR2_READ (R216) -/
  | hostBar2Read (fn off len : Nat)
  /-- WORK_BITMAP_WRITE (R24) -/
  | workBitmapWrite (fn off : Nat) (data : List Byte)
  /-- SAFELIGHT_POLL (R22) -/
  | safelightPoll
  /-- CONTEXT_ENTRY_READ (R246) -/
  | contextEntryRead (ctx : Nat)
  /-- COMMAND_RECORD_READ (R248) -/
  | commandRecordRead (ctx : Nat)
  /-- START_CHECKS (R222) -/
  | startChecks
  /-- WAKE_TO_NAP_DONE (R20) -/
  | wakeToNapDone (die : Nat)
  /-- WAKE_TO_RUN_DONE (R20) -/
  | wakeToRunDone (ctx : Nat)
  /-- IDLE_NAP_EXPIRE (R19) -/
  | idleNapExpire (die : Nat)
  /-- IDLE_DEEP_EXPIRE (R19) -/
  | idleDeepExpire (die : Nat)
  /-- NAP_ENTRY_DONE (R19) -/
  | napEntryDone (die : Nat)
  /-- DEEP_ENTRY_DONE (R19) -/
  | deepEntryDone (die : Nat)
  /-- TILE_UNGATE_DONE (R21) -/
  | tileUngateDone (mt : Nat)
  /-- TILE_REGATE (R21) -/
  | tileRegate (mt : Nat)
  /-- DONE_REPORT (R254) -/
  | doneReport (n : Nat)
  /-- COMMAND_FAULT_EVENT (R254) -/
  | commandFaultEvent
  /-- ABORT_DRAIN_DONE (R256) -/
  | abortDrainDone (ctx : Nat)
  /-- ADD (R124) -/
  | scAdd (n : Nat)
  /-- SUB (R124) -/
  | scSub (n : Nat)
  /-- AND (R124) -/
  | scAnd (n : Nat)
  /-- OR (R124) -/
  | scOr (n : Nat)
  /-- XOR (R124) -/
  | scXor (n : Nat)
  /-- SLL (R124) -/
  | scSll (n : Nat)
  /-- SRL (R124) -/
  | scSrl (n : Nat)
  /-- SRA (R124) -/
  | scSra (n : Nat)
  /-- SLT (R124) -/
  | scSlt (n : Nat)
  /-- SLTU (R124) -/
  | scSltu (n : Nat)
  /-- MUL (R124) -/
  | scMul (n : Nat)
  /-- MULH (R124) -/
  | scMulh (n : Nat)
  /-- MULHU (R124) -/
  | scMulhu (n : Nat)
  /-- DIV (R124) -/
  | scDiv (n : Nat)
  /-- DIVU (R124) -/
  | scDivu (n : Nat)
  /-- REM (R124) -/
  | scRem (n : Nat)
  /-- REMU (R124) -/
  | scRemu (n : Nat)
  /-- ADDI (R124) -/
  | scAddi (n : Nat)
  /-- ANDI (R124) -/
  | scAndi (n : Nat)
  /-- ORI (R124) -/
  | scOri (n : Nat)
  /-- XORI (R124) -/
  | scXori (n : Nat)
  /-- SLTI (R124) -/
  | scSlti (n : Nat)
  /-- SLLI (R124) -/
  | scSlli (n : Nat)
  /-- SRLI (R124) -/
  | scSrli (n : Nat)
  /-- SRAI (R124) -/
  | scSrai (n : Nat)
  /-- LUI (R124) -/
  | scLui (n : Nat)
  /-- LDB (R119) -/
  | scLdb (n : Nat)
  /-- LDBU (R119) -/
  | scLdbu (n : Nat)
  /-- LDH (R119) -/
  | scLdh (n : Nat)
  /-- LDHU (R119) -/
  | scLdhu (n : Nat)
  /-- LDW (R119) -/
  | scLdw (n : Nat)
  /-- APERTURE_LOAD_RETURN (R120) -/
  | apertureLoadReturn (n rd : Nat)
  /-- STB (R119) -/
  | scStb (n : Nat)
  /-- STH (R119) -/
  | scSth (n : Nat)
  /-- STW (R119) -/
  | scStw (n : Nat)
  /-- BEQ (R124) -/
  | scBeq (n : Nat)
  /-- BNE (R124) -/
  | scBne (n : Nat)
  /-- BLT (R124) -/
  | scBlt (n : Nat)
  /-- BGE (R124) -/
  | scBge (n : Nat)
  /-- BLTU (R124) -/
  | scBltu (n : Nat)
  /-- BGEU (R124) -/
  | scBgeu (n : Nat)
  /-- JAL (R124) -/
  | scJal (n : Nat)
  /-- JALR (R124) -/
  | scJalr (n : Nat)
  /-- SEMWAIT (R131) -/
  | scSemwait (n : Nat)
  /-- SEMTRY (R131) -/
  | scSemtry (n : Nat)
  /-- SEMADD (R131) -/
  | scSemadd (n : Nat)
  /-- SEMRD (R131) -/
  | scSemrd (n : Nat)
  /-- SEMAPHORE_WAIT_GRANT (R133) -/
  | semaphoreWaitGrant (tile sem : Nat)
  /-- RDC (R121) -/
  | scRdc (n : Nat)
  /-- WRC (R121) -/
  | scWrc (n : Nat)
  /-- FENCE (R212) -/
  | scFence (n : Nat)
  /-- LAUNCH (R126) -/
  | scLaunch (n : Nat)
  /-- CHOPEN (R236) -/
  | scChopen (n : Nat)
  /-- CHSEND (R239) -/
  | scChsend (n : Nat)
  /-- CHWAIT (R241) -/
  | scChwait (n : Nat)
  /-- CHACK (R241) -/
  | scChack (n : Nat)
  /-- CHREL (R235) -/
  | scChrel (n : Nat)
  /-- CHANNEL_RECORD_VISIBLE (R239) -/
  | channelRecordVisible (ctx h idx : Nat)
  /-- CHWAIT_TIMEOUT (R241) -/
  | chwaitTimeout (n : Nat)
  /-- FULL_TIMEOUT (R240) -/
  | fullTimeout (n : Nat)
  /-- ICPACQ (R129) -/
  | scIcpacq (n : Nat)
  /-- ICPLOAD (R358) -/
  | scIcpload (n : Nat)
  /-- ICPREL (R129) -/
  | scIcprel (n : Nat)
  /-- DONE (R130) -/
  | scDone (n : Nat)
  /-- ICP_LOCK_BREAK (R125) -/
  | icpLockBreak
  /-- DESCRIPTOR_BURST_ARRIVE (R201) -/
  | descriptorBurstArrive (tile q : Nat)
  /-- TRANSFER_START (R205) -/
  | transferStart (tile q : Nat)
  /-- TRANSFER_COMPLETE (R202) -/
  | transferComplete (tile q seq : Nat)
  /-- COMPLETION_MESSAGE_ARRIVE (R242) -/
  | completionMessageArrive (idx : Nat)
  /-- SYNC (R196) -/
  | syncDescriptor (tile q : Nat)
  /-- FENCE_DESCRIPTOR (R204) -/
  | fenceDescriptor (tile q : Nat)
  /-- FENCE_DESCRIPTOR_END (R204) -/
  | fenceDescriptorEnd (tile q : Nat)
  /-- DEPENDENCE_MARK (R203) -/
  | dependenceMark (tile q : Nat)
  /-- CAROUSEL_DESCRIPTOR (R182) -/
  | carouselDescriptor (tile q : Nat)
  /-- MATRIX_SEGMENT_START (R93) -/
  | matrixSegmentStart (tile : Nat)
  /-- CHUNK_LOADED (R83) -/
  | chunkLoaded (tile : Nat)
  /-- PASS_START (R71) -/
  | passStart (tile : Nat)
  /-- CELL_PRODUCT (R58) -/
  | cellProduct (tile cell : Nat)
  /-- PASS_END (R61) -/
  | passEnd (tile : Nat)
  /-- FIX_DRAIN_RECORD (R66) -/
  | fixDrainRecord (tile : Nat)
  /-- LONG_FORM_STALL_END (R69) -/
  | longFormStallEnd (tile : Nat)
  /-- DRAIN_DESCRIPTOR_TAKE (R227) -/
  | drainDescriptorTake (tile : Nat)
  /-- FINALISE_BLOCK (R70) -/
  | finaliseBlock (tile : Nat)
  /-- DRAIN_WRITES_DONE (R89) -/
  | drainWritesDone (tile : Nat)
  /-- VECTOR_DESCRIPTOR_START (R106) -/
  | vectorDescriptorStart (tile : Nat)
  /-- VECTOR_DESCRIPTOR_COMPLETE (R106) -/
  | vectorDescriptorComplete (tile seq : Nat)
  /-- MEM_TILE_REQUEST (R145) -/
  | memTileRequest (mt bank cycle : Nat)
  /-- MEM_SIDE_UPDATE (R149) -/
  | memSideUpdate (idx : Nat)
  /-- ECC_WRITE_BACK (R138) -/
  | eccWriteBack (mt bank : Nat)
  /-- MEMORY_SCRUB (R407) -/
  | memoryScrub (unit : Nat)
  /-- POSTED_NOTIFY (R314) -/
  | postedNotify (n x : Nat)
  /-- TOKEN_HEAD (R164) -/
  | tokenHead (tile qid : Nat)
  /-- STEER_FIRE (R173) -/
  | steerFire (tile unit : Nat)
  /-- SLIDE_CHANGE_START (R179) -/
  | slideChangeStart (tile : Nat)
  /-- SLIDE_CHANGE_DONE (R179) -/
  | slideChangeDone (tile : Nat)
  /-- COMMIT_ARRIVE (R188) -/
  | commitArrive (tile : Nat)
  /-- TILE_SWITCH (R190) -/
  | tileSwitch (tile : Nat)
  /-- ICP_LOAD_DONE (R359) -/
  | icpLoadDone
  /-- GROOMER_RECORD (R270) -/
  | groomerRecord (d : Nat)
  /-- GROOMER_BLOCK_ARRIVE (R271) -/
  | groomerBlockArrive (d : Nat)
  /-- WC_WRITE_ISSUE (R280) -/
  | wcWriteIssue (d : Nat)
  /-- GROOMER_GO_WORD (R282) -/
  | groomerGoWord (d entry : Nat)
  /-- SHARD_REDUCE_DONE (R286) -/
  | shardReduceDone (d entry : Nat)
  /-- DIGEST_FLAG_OR_DONE (R289) -/
  | digestFlagOrDone (d entry : Nat)
  /-- HOLDOFF_END (R291) -/
  | holdoffEnd
  /-- PORT_UP (R297) -/
  | portUp (p mid domain : Nat)
  /-- PORT_RETRAIN (R297) -/
  | portRetrain (p : Nat)
  /-- PORT_RESTORE (R297) -/
  | portRestore (p : Nat)
  /-- PORT_DISABLE (R325) -/
  | portDisable (p : Nat)
  /-- LANE_LOCK_LOSS (R325) -/
  | laneLockLoss (p : Nat)
  /-- LINK_TIMEOUT (R325) -/
  | linkTimeout (p : Nat)
  /-- PORT_UP_TIMEOUT (R304) -/
  | portUpTimeout (p : Nat)
  /-- SLOT_MOVE_DONE (R304) -/
  | slotMoveDone (mid slot : Nat)
  /-- LINK_WAKE_DONE (R298) -/
  | linkWakeDone (p : Nat)
  /-- IDLE (R300) -/
  | flitIdle (p : Nat) (f : Flit)
  /-- IDLE_TIMER (R299) -/
  | idleTimer (p : Nat)
  /-- RETRY (R300) -/
  | flitRetry (p : Nat) (f : Flit)
  /-- READ_REQ (R309) -/
  | flitReadReq (p : Nat) (f : Flit)
  /-- READ_RESP (R306) -/
  | flitReadResp (p : Nat) (f : Flit)
  /-- WRITE (R309) -/
  | flitWrite (p : Nat) (f : Flit)
  /-- XACC (R310) -/
  | flitXacc (p : Nat) (f : Flit)
  /-- ACK (R309) -/
  | flitAck (p : Nat) (f : Flit)
  /-- NACK (R309) -/
  | flitNack (p : Nat) (f : Flit)
  /-- READY (R319) -/
  | flitReady (p : Nat) (f : Flit)
  /-- ALIVE (R320) -/
  | flitAlive (p : Nat) (f : Flit)
  /-- ABANDON (R321) -/
  | flitAbandon (p : Nat) (f : Flit)
  /-- COLL_DATA (R317) -/
  | flitCollData (p : Nat) (f : Flit)
  /-- FAULT (R326) -/
  | flitFault (p : Nat) (f : Flit)
  /-- REMOTE_ACCESS_TIMEOUT (R312) -/
  | remoteAccessTimeout (txn : Nat)
  /-- COLLECTIVE_TIMEOUT (R320) -/
  | collectiveTimeout (x idx rank : Nat)
  /-- ALIVE_INTERVAL (R320) -/
  | aliveInterval (x : Nat)
  /-- WINDOW_LEASE_EXPIRE (R311) -/
  | windowLeaseExpire (w : Nat)
  /-- COLLECTIVE_COMPLETE (R324) -/
  | collectiveComplete (x idx : Nat)
  /-- WIN_CMD_READ (R329) -/
  | winCmdRead
  /-- WIN_CMD_WRITE (R311) -/
  | winCmdWrite
  /-- WIN_CMD_CLOSE (R311) -/
  | winCmdClose
  /-- ROUTE_CMD_READ (R329) -/
  | routeCmdRead
  /-- ROUTE_CMD_WRITE (R329) -/
  | routeCmdWrite
  /-- POWER_ON (R426) -/
  | powerOn
  /-- POR_END (R426) -/
  | porEnd (startMode : Bool) (mid : Nat)
  /-- HBM_READY (R426) -/
  | hbmReady
  /-- LOAD_HEADER (R333) -/
  | loadHeader
  /-- LOAD_SEGMENT (R335) -/
  | loadSegment
  /-- LOAD_CHECKS (R221) -/
  | loadChecks
  /-- ACTIVATION (R351) -/
  | activation
  /-- MODULE_START (R353) -/
  | moduleStart
  /-- GET_REPORT (R367) -/
  | getReport
  /-- GET_CERT (R367) -/
  | getCert
  /-- MBOX_RELEASE (R366) -/
  | mboxRelease
  /-- MBOX_REPORT_DONE (R366) -/
  | mboxReportDone
  /-- MBOX_LOCK (R391) -/
  | mboxLock (v : Nat)
  /-- MBOX_LOCK_BREAK (R366) -/
  | mboxLockBreak
  /-- RAISE_FLOOR (R368) -/
  | raiseFloor
  /-- FLASH_ERASE (R370) -/
  | flashErase (sector : Nat)
  /-- FLASH_ERASE_DONE (R370) -/
  | flashEraseDone
  /-- FLASH_WRITE (R370) -/
  | flashWrite (off : Nat) (data : List Byte)
  /-- FLASH_PAGE_PROGRAMMED (R370) -/
  | flashPageProgrammed
  /-- SAFE_WARM_RESET (R389) -/
  | safeWarmReset
  /-- SAFE_RELOAD (R345) -/
  | safeReload
  /-- WARM_RESET (R431) -/
  | warmReset (cause : Nat)
  /-- WARM_RESET_END (R430) -/
  | warmResetEnd
  /-- PERST_N_RELEASE (R432) -/
  | perstNRelease (mid : Nat)
  /-- VF_FLR (R374) -/
  | vfFlr (t : Nat)
  /-- RC_REGISTER_READ (R384), with the place of the access -/
  | rcRegisterRead (fn : Nat) (p : Place) (be : Nat)
  /-- ALIAS_ACCESS (R383) -/
  | aliasAccess (off : Nat) (wr : Bool) (v : Nat)
  /-- PAIR_LO_READ (R385) -/
  | pairLoRead (off : Nat)
  /-- PAIR_HI_WRITE (R385) -/
  | pairHiWrite (off v : Nat)
  /-- REGISTER_WRITE (R382), with the place of the access -/
  | registerWrite (fn : Nat) (p : Place) (v be : Nat)
  /-- GRM_POSITION_WRITE (R394) -/
  | grmPositionWrite (d v : Nat)
  /-- CLEAR_HALT (R394) -/
  | clearHalt (mask : Nat)
  /-- FLT_CLEAR (R414) -/
  | fltClear
  /-- FLT_INJECT (R415) -/
  | fltInject (v : Nat)
  /-- METER_TAKE (R400) -/
  | meterTake
  /-- METER_CONFIG_WRITE (R401) -/
  | meterConfigWrite (off v : Nat)
  /-- METER_PERIOD (R396) -/
  | meterPeriod
  /-- PARITY_SCAN (R386) -/
  | parityScan
  /-- FATAL_FAULT (R408) -/
  | fatalFault (code unit tile addr : Nat)
  /-- HOST_COMPLETION_TIMEOUT (R373) -/
  | hostCompletionTimeout
  /-- SAFE_WATCHDOG (R406) -/
  | safeWatchdog
  /-- CLOCK_LOSS (R429) -/
  | clockLoss (which : Nat)
  /-- THERMAL_TICK (R412) -/
  | thermalTick (temps : List Nat)
  /-- RAIL_SAMPLE (R413) -/
  | railSample (mv ma : List Nat)
  /-- POWER_CAP_TICK (R424) -/
  | powerCapTick (watts : Nat)
  /-- POWER_LOSS (R427) -/
  | powerLoss
  /-- LOAD_STATUS (R422) -/
  | smbLoadStatus
  /-- FAULT_STATUS (R422) -/
  | smbFaultStatus
  /-- IDENTITY (R422) -/
  | smbIdentity
  /-- ENV_STATUS (R422) -/
  | smbEnvStatus
  /-- TEMPERATURES (R422) -/
  | smbTemperatures
  /-- COOLANT (R422) -/
  | smbCoolant
  /-- RAILS (R422) -/
  | smbRails
  /-- POWER (R422) -/
  | smbPower
  /-- THROTTLE (R422) -/
  | smbThrottle
  /-- POWER_CAP_READ (R422) -/
  | smbPowerCapRead
  /-- POWER_CAP_WRITE (R424) -/
  | smbPowerCapWrite (v : SmbWord)
  /-- FENCE_COMPLETE (R212) -/
  | fenceComplete (n : Nat)
  /-- ILLEGAL (R124) -/
  | scIllegal (n : Nat)
  /-- BAD_CRC (R300) -/
  | badCrc (p : Nat)
  /-- PORT_ENABLE (R304) -/
  | portEnable (p : Nat)
  /-- SAFE_SLEEP_CTRL_WRITE (R389) -/
  | safeSleepCtrlWrite (v : Nat)
  /-- CMD_REJECT (R387) -/
  | cmdReject (which : Nat)
  /-- MBOX_FORMAT (R366) -/
  | mboxFormat (v : Nat)
  /-- DONE_N_LINE_CHANGE (R353) -/
  | doneNLineChange (level : Bool)
  /-- PWRGD_LOW_HOLD_END (R426) -/
  | pwrgdLowHoldEnd
  /-- PCIE_LINK_STATE (R417) -/
  | pcieLinkState (l : LinkAs)
  /-- D3HOT (R374) -/
  | d3hot (fn : Nat) (enter : Bool)
  /-- BOUNDARY_SCAN (R420) -/
  | boundaryScan (scan : ScanAs)
deriving DecidableEq, Repr

end Sys2Proof
end

