-- ==== Sys2Proof/Decode.lean ====
section
/-! DEFINITION. The table gives no row any bits: no word spells a command. -/

namespace Sys2Proof

/-- The command a word spells by the table's bits: none, since every row of the table is without an encoding. -/
def decodeTableWord (_nbits _w : Nat) : Option Instr := none

end Sys2Proof
end

