-- ==== Sys2Proof/Config.lean ====
section
/-! DEFINITION. What the part fixes but the spec does not state, and the free values (log entries 1 to 4).
Nothing here has a body: no proof can learn a value. -/

namespace Sys2Proof.Config

/-- A fresh free value: the n-th value the spec leaves open; the state counts them (log entry 1). -/
opaque free : Nat → Nat

/-- ECDSA P-384 signature under IDENTITY_KEY over a digest: r then s (R367). The key never leaves its engine, and the spec does not say how
the signer draws its per-signature number (log entry 2). -/
opaque identitySign : List (BitVec 8) → List (BitVec 8)

/-- eFuse ROOT_KEY, 32 bytes (R336). -/
opaque rootKey : List (BitVec 8)
/-- eFuse OWNER_KEY_HASH, 48 bytes (R333). -/
opaque ownerKeyHash : List (BitVec 8)
/-- Public half of IDENTITY_KEY, x then y, 96 bytes (R367). -/
opaque identityPub : List (BitVec 8)
/-- The identity certificate held in one-time memory, up to 4 KiB (R367). -/
opaque certificate : List (BitVec 8)
/-- eFuse UNIT_ID (R336). -/
opaque unitId : Nat
/-- SEC_FLOOR as manufactured: bits blown, 0 to 64 (R336). -/
opaque floorFuses : Nat
/-- SHA-384 of the safelight ROM (R364). -/
opaque romHash : List (BitVec 8)
/-- Ngalu PCIe vendor identity, which the spec does not number (R392). -/
opaque vendorId : Nat

end Sys2Proof.Config
end

