-- ==== Sys2Proof/Machine/Bits.lean ====
section
/-! DEFINITION. Bit fields, byte order (R4), sparse tables and sparse byte memories. -/

namespace Sys2Proof.Machine

/-- Bits hi down to lo of x (R4). -/
def fld (x hi lo : Nat) : Nat := (x >>> lo) % 2 ^ (hi + 1 - lo)
/-- Bit i of x. -/
def bitAt (x i : Nat) : Bool := x.testBit i
/-- A Boolean as a bit. -/
def b2n (b : Bool) : Nat := if b then 1 else 0
/-- x with bits hi down to lo set to v. -/
def setFld (x hi lo v : Nat) : Nat := x - (fld x hi lo) * 2 ^ lo + (v % 2 ^ (hi + 1 - lo)) * 2 ^ lo
/-- The w-bit two's complement value of x. -/
def sgn (w x : Nat) : Int := if x % 2 ^ w < 2 ^ (w - 1) then (x % 2 ^ w : Nat) else (x % 2 ^ w : Nat) - (2 ^ w : Nat)
/-- The low w bits of an integer. -/
def wrap (w : Nat) (x : Int) : Nat := (x % (2 ^ w : Nat)).toNat
/-- x rounded up to a multiple of n. -/
def ceilDiv (x n : Nat) : Nat := (x + n - 1) / n
/-- A saturating sum (R258, R395). -/
def satAdd (w x y : Nat) : Nat := min (x + y) (2 ^ w - 1)

/-- The little-endian value of a byte string (R4). -/
def leNat : List (BitVec 8) → Nat
  | [] => 0
  | b :: bs => b.toNat + 256 * leNat bs
/-- n bytes of x, little-endian (R4). -/
def natLE : Nat → Nat → List (BitVec 8)
  | 0, _ => []
  | n + 1, x => BitVec.ofNat 8 x :: natLE n (x / 256)

/-- Look a key up in a sparse table. -/
def tget? {α : Type} : Tbl α → Nat → Option α
  | [], _ => none
  | (k, v) :: t, i => if i = k then some v else tget? t i
/-- Look a key up, with a value for absent keys. -/
def tget {α : Type} (d : α) (t : Tbl α) (i : Nat) : α := (tget? t i).getD d
/-- Set a key. -/
def tset {α : Type} : Tbl α → Nat → α → Tbl α
  | [], i, v => [(i, v)]
  | (k, w) :: t, i, v => if i < k then (i, v) :: (k, w) :: t else if i = k then (i, v) :: t else (k, w) :: tset t i v
/-- Remove a key. -/
def tdel {α : Type} (t : Tbl α) (i : Nat) : Tbl α := t.filter (fun p => p.1 != i)

/-- Read a byte; an unlisted address reads d. -/
def mget (d : BitVec 8) : Mem → Nat → BitVec 8
  | [], _ => d
  | (k, v) :: t, i => if i < k then d else if i = k then v else mget d t i
/-- Write a byte, keeping the canonical form: keys rising, no entry equal to d. -/
def mset (d : BitVec 8) : Mem → Nat → BitVec 8 → Mem
  | [], i, v => if v = d then [] else [(i, v)]
  | (k, w) :: t, i, v =>
    if i < k then (if v = d then (k, w) :: t else (i, v) :: (k, w) :: t)
    else if i = k then (if v = d then t else (i, v) :: t)
    else (k, w) :: mset d t i v
/-- The keys of m rise strictly from a lower bound on, and no entry equals d. -/
def mwfFrom (d : BitVec 8) : Nat → Mem → Bool
  | _, [] => true
  | lo, (k, v) :: t => decide (lo ≤ k) && decide (v ≠ d) && mwfFrom d (k + 1) t
/-- The canonical form of a sparse memory whose unlisted bytes read d. -/
def Mem.wfD (d : BitVec 8) (m : Mem) : Bool := mwfFrom d 0 m
/-- Write a byte string from an address up. -/
def mwrite (d : BitVec 8) : Mem → Nat → List (BitVec 8) → Mem
  | m, _, [] => m
  | m, a, b :: bs => mwrite d (mset d m a b) (a + 1) bs
/-- Read n bytes from an address up. -/
def mread (d : BitVec 8) (m : Mem) : Nat → Nat → List (BitVec 8)
  | _, 0 => []
  | a, n + 1 => mget d m a :: mread d m (a + 1) n
/-- Reset n bytes from an address up to the default. -/
def mclear (m : Mem) (a n : Nat) : Mem := m.filter (fun c => decide (c.1 < a) || decide (a + n ≤ c.1))
/-- The listed cells of a range. -/
def mrange (m : Mem) (a n : Nat) : Mem := m.filter (fun c => decide (a ≤ c.1) && decide (c.1 < a + n))

/-- List element with a default. -/
def nth {α : Type} (d : α) : List α → Nat → α
  | [], _ => d
  | x :: _, 0 => x
  | _ :: xs, n + 1 => nth d xs n
/-- Replace element i. -/
def lset {α : Type} : List α → Nat → α → List α
  | [], _, _ => []
  | _ :: xs, 0, v => v :: xs
  | x :: xs, n + 1, v => x :: lset xs n v
/-- Remove element i. -/
def ldel {α : Type} : List α → Nat → List α
  | [], _ => []
  | _ :: xs, 0 => xs
  | x :: xs, n + 1 => x :: ldel xs n
/-- Insert into a rising list without repeats. -/
def linsert : Nat → List Nat → List Nat
  | i, [] => [i]
  | i, x :: xs => if i < x then i :: x :: xs else if i = x then x :: xs else x :: linsert i xs
/-- Stable insertion sort by a strict order. -/
def insertBy {α : Type} (lt : α → α → Bool) (x : α) : List α → List α
  | [] => [x]
  | y :: ys => if lt x y then x :: y :: ys else y :: insertBy lt x ys
/-- Sort a list, earlier elements first among equals. -/
def sortBy {α : Type} (lt : α → α → Bool) (l : List α) : List α := l.foldl (fun acc x => insertBy lt x acc) []
/-- The set bits of x below n, rising. -/
def bitsOf (n x : Nat) : List Nat := (List.range n).filter (fun i => x.testBit i)
/-- Cut a list into pieces of k. -/
def chunksAux {α : Type} (k : Nat) : Nat → List α → List (List α)
  | 0, _ => []
  | f + 1, l => if l.isEmpty then [] else l.take k :: chunksAux k f (l.drop k)
/-- Cut a list into pieces of k (k ≥ 1). -/
def chunks {α : Type} (k : Nat) (l : List α) : List (List α) := chunksAux k l.length l

end Sys2Proof.Machine
end

