-- ==== Sys2Proof/Machine/NumFmt.lean ====
section
/-! DEFINITION. Number formats, exact partial records, rounding, stochastic keys, conversion and slices (R26 to R54). -/

namespace Sys2Proof.Machine

/-- An exact value with its class: NaN, an infinity, or (-1)^neg * m * 2^e. -/
inductive XVal where
  | nan
  | inf (neg : Bool)
  | fin (neg : Bool) (m : Nat) (e : Int)
deriving DecidableEq, Repr, Inhabited

/-- Size in bytes of a format code (Table 2.1); reserved codes have size 1 and are refused by the loader. -/
def fmtSize : Nat → Nat
  | 0 => 2 | 1 => 1 | 2 => 1 | 3 => 4 | 4 => 8 | 5 => 1 | 6 => 32 | 7 => 96 | 8 => 544 | _ => 1
/-- Exponent bits of a floating format. -/
def fmtE : Nat → Nat
  | 0 => 8 | 1 => 4 | 2 => 5 | 3 => 8 | _ => 11
/-- Fraction bits t. -/
def fmtT : Nat → Nat
  | 0 => 7 | 1 => 3 | 2 => 2 | 3 => 23 | _ => 52
/-- Bias b. -/
def fmtBias (f : Nat) : Nat := 2 ^ (fmtE f - 1) - 1
/-- Precision p, with int8 counted as 8 (R73). -/
def fmtP (f : Nat) : Nat := if f = 5 then 8 else fmtT f + 1
/-- Largest finite value as n * 2^q with n of p bits (Table 2.1). -/
def fmtMax (f : Nat) : Nat × Int :=
  if f = 1 then (14, 5) else (2 ^ (fmtT f + 1) - 1, (fmtBias f : Int) - (fmtT f : Int))
/-- Canonical NaN (Table 2.1). -/
def fmtNaN : Nat → Nat
  | 0 => 0x7FC0 | 1 => 0x7F | 2 => 0x7E | 3 => 0x7FC00000 | 4 => 0x7FF8000000000000 | _ => 0
/-- Signed infinity; E4M3 has none and gives its NaN, int8 gives 127 or -128 (R34). -/
def fmtInf (f : Nat) (neg : Bool) : Nat :=
  if f = 5 then (if neg then 0x80 else 0x7F)
  else if f = 1 then 0x7F
  else ((2 ^ fmtE f - 1) * 2 ^ fmtT f) + (if neg then 2 ^ (fmtE f + fmtT f) else 0)
/-- Signed zero. -/
def fmtZero (f : Nat) (neg : Bool) : Nat := if f = 5 then 0 else if neg then 2 ^ (fmtE f + fmtT f) else 0

/-- The value of an encoding (R27, R28). -/
def decodeNum (f raw : Nat) : XVal :=
  if f = 5 then (if raw % 256 < 128 then .fin false (raw % 256) 0 else .fin true (256 - raw % 256) 0)
  else
    let t := fmtT f
    let neg := raw.testBit (fmtE f + t)
    let e := fld raw (fmtE f + t - 1) t
    let fr := raw % 2 ^ t
    if f = 1 ∧ e = 15 ∧ fr = 7 then .nan
    else if f ≠ 1 ∧ e = 2 ^ fmtE f - 1 then (if fr = 0 then .inf neg else .nan)
    else if e = 0 then .fin neg fr (1 - (fmtBias f : Int) - t)
    else .fin neg (2 ^ t + fr) ((e : Int) - (fmtBias f : Int) - t)

/-- Encode n * 2^q (n of at most p bits on the format's grid). -/
def encodeFin (f : Nat) (neg : Bool) (n : Nat) (q : Int) : Nat :=
  let t := fmtT f
  let s := if neg then 2 ^ (fmtE f + t) else 0
  if n = 0 then s
  else
    let n' := if n = 2 ^ (t + 1) then 2 ^ t else n
    let q' := if n = 2 ^ (t + 1) then q + 1 else q
    if n' < 2 ^ t then s + n'
    else s + ((q' + t + (fmtBias f : Int)).toNat) * 2 ^ t + (n' - 2 ^ t)

/-- The mixer round constant (R39). -/
def mixConst : BitVec 64 := 0x8C4F27D3A95E61B5#64
/-- One round of the mixer (R39). -/
def mixRound (x : BitVec 64) : BitVec 64 :=
  let y := x + mixConst
  y ^^^ y.rotateLeft 24 ^^^ y.rotateLeft 44
/-- The mixer (R39). -/
def mix (x : BitVec 64) : BitVec 64 := mixRound (mixRound (mixRound (mixRound x)))
/-- The key of a stochastic rounding (R38). -/
def srKey (seed t e : Nat) : BitVec 64 :=
  BitVec.ofNat 64 seed ^^^ BitVec.ofNat 64 ((t % 2 ^ 16) * 2 ^ 48) ^^^ BitVec.ofNat 64 (e % 2 ^ 48)
/-- Width of a stochastic rounding by its code (R40). -/
def srWidth : Nat → Nat
  | 0 => 16 | 1 => 8 | 2 => 12 | _ => 24
/-- The random bits u of width n (R40). -/
def srBits (n seed t e : Nat) : Nat := (mix (srKey seed t e)).toNat >>> (64 - n)

/-- The rounding settings of a descriptor: code, SAT, width code, and the coordinates of R38. -/
structure Rnd where
  rc : Nat := 0
  sat : Bool := false
  srw : Nat := 0
  seed : Nat := 0
  tensor : Nat := 0
  elem : Nat := 0
deriving DecidableEq, Repr, Inhabited

/-- Whether a magnitude between grid points, lo + rem / 2^sh, moves up (R36, R41, Table 2.4). -/
def roundUp (r : Rnd) (neg odd : Bool) (rem sh : Nat) : Bool :=
  match r.rc with
  | 1 => false
  | 2 => neg
  | 3 => !neg
  | 4 => decide (2 ^ sh ≤ 2 * rem)
  | 5 => let n := srWidth r.srw; decide (2 ^ n ≤ rem * 2 ^ n / 2 ^ sh + srBits n r.seed r.tensor r.elem)
  | _ => decide (2 ^ sh < 2 * rem) || (decide (2 ^ sh = 2 * rem) && odd)

/-- Round m * 2^e to a multiple of 2^q: the integer n (R36 first step). -/
def roundGrid (r : Rnd) (neg : Bool) (m : Nat) (e q : Int) : Nat :=
  if q ≤ e then m * 2 ^ (e - q).toNat
  else
    let sh := (q - e).toNat
    let lo := m / 2 ^ sh
    let rem := m % 2 ^ sh
    if rem = 0 then lo else if roundUp r neg (lo % 2 = 1) rem sh then lo + 1 else lo

/-- n * 2^q is above a * 2^b. -/
def magGt (n : Nat) (q : Int) (a : Nat) (b : Int) : Bool :=
  if q ≤ b then decide (a * 2 ^ (b - q).toNat < n) else decide (a < n * 2 ^ (q - b).toNat)

/-- Round a finite value to a format (R36, R37, Table 2.5). -/
def roundFin (f : Nat) (r : Rnd) (neg : Bool) (m : Nat) (e : Int) : Nat :=
  if f = 5 then
    let n := roundGrid r neg m e 0
    if neg then (256 - min n 128) % 256 else min n 127
  else if m = 0 then fmtZero f neg
  else
    let t := fmtT f
    let k : Int := (Nat.log2 m : Int) + e
    let q : Int := max (k - t) (1 - (fmtBias f : Int) - t)
    let n := roundGrid r neg m e q
    let (mx, mq) := fmtMax f
    if magGt n q mx mq then
      if r.sat || f = 1 || r.rc = 1 || (r.rc = 2 && !neg) || (r.rc = 3 && neg) then encodeFin f neg mx mq
      else fmtInf f neg
    else encodeFin f neg n q

/-- Round a classified value to a format (R34, R36). -/
def roundNum (f : Nat) (r : Rnd) : XVal → Nat
  | .nan => fmtNaN f
  | .inf neg => fmtInf f neg
  | .fin neg m e => roundFin f r neg m e

/-- Multiply by 2^x, exactly (R45). -/
def scaleNum (x : Int) : XVal → XVal
  | .fin neg m e => .fin neg m (e + x)
  | v => v

/-- The format represents every value of the source: the widenings of R46, with x = 0. -/
def widens (src dst : Nat) : Bool :=
  src = dst || (decide (src = 1 ∨ src = 2 ∨ src = 5) && decide (dst = 0 ∨ dst = 3 ∨ dst = 4))
    || (src = 0 && decide (dst = 3 ∨ dst = 4)) || (src = 3 && dst = 4)

/-- The maximum-word pattern of |v| (R46): FP32 rounded up, with the special patterns. -/
def maxPattern : XVal → Nat
  | .nan => 0x7FC00000
  | .inf _ => 0x7F800000
  | .fin _ m e => if m = 0 then 0 else roundFin 3 { rc := 3 } false m e

/-- A conversion of R45: source value, scale, target. -/
def convertNum (dst : Nat) (r : Rnd) (x : Int) (v : XVal) : Nat := roundNum dst r (scaleNum x v)

/-! Exact partial records. -/

/-- An exact partial record: value w * 2^a and the four flags of Table 2.3. -/
structure Epr where
  w : Int
  a : Int
  nan : Bool
  pinf : Bool
  ninf : Bool
  negz : Bool
deriving DecidableEq, Repr, Inhabited

/-- The empty record, the identity of addition (R33). -/
def Epr.empty : Epr := ⟨0, 0, false, false, false, true⟩
/-- Join the flags of two records (R33). -/
def Epr.joinFlags (x y : Epr) (w a : Int) : Epr :=
  ⟨w, a, x.nan || y.nan, x.pinf || y.pinf, x.ninf || y.ninf, x.negz && y.negz⟩
/-- w * 2^a taken at anchor b, b not above a. -/
def atAnchor (w a b : Int) : Int := w * (2 ^ (a - b).toNat : Nat)
/-- Exact addition of records (R33). -/
def Epr.add (x y : Epr) : Epr :=
  let a := min x.a y.a
  Epr.joinFlags x y (atAnchor x.w x.a a + atAnchor y.w y.a a) a
/-- The class a record rounds as (R34 cases 1 to 4). -/
def Epr.num (r : Epr) : XVal :=
  if r.nan || (r.pinf && r.ninf) then .nan
  else if r.pinf then .inf false
  else if r.ninf then .inf true
  else if r.w = 0 then .fin r.negz 0 0
  else .fin (decide (r.w < 0)) r.w.natAbs r.a
/-- Window bits of a form (Table 2.2). -/
def eprW : Nat → Nat
  | 6 => 232 | 7 => 640 | _ => 4224
/-- The fixed anchor of an exported form (Table 3.5). -/
def eprAnchor : Nat → Int
  | 6 => -32 | 7 => -298 | _ => -2148
/-- Flags as the bits of Table 2.3. -/
def Epr.flagBits (r : Epr) : Nat := b2n r.nan + 2 * b2n r.pinf + 4 * b2n r.ninf + 8 * b2n r.negz
/-- The window value at an anchor; bits below the anchor are dropped only where the spec's limits are broken. -/
def Epr.windowAt (r : Epr) (b : Int) : Int :=
  if b ≤ r.a then atAnchor r.w r.a b else r.w / (2 ^ (b - r.a).toNat : Nat)
/-- A record in its form's bytes at the fixed anchor (R31, R76, R310: modulo the window width). -/
def Epr.toNat (r : Epr) (form : Nat) : Nat :=
  let b := eprAnchor form
  wrap (eprW form) (r.windowAt b) + r.flagBits * 2 ^ eprW form + wrap 16 b * 2 ^ (eprW form + 8)
/-- Read a record of a form (Table 2.2). -/
def Epr.ofNat (form x : Nat) : Epr :=
  let w := eprW form
  ⟨sgn w x, sgn 16 (fld x (w + 23) (w + 8)), x.testBit w, x.testBit (w + 1), x.testBit (w + 2), x.testBit (w + 3)⟩
/-- A value counted as one product (R317). -/
def Epr.ofNum : XVal → Epr
  | .nan => ⟨0, 0, true, false, false, false⟩
  | .inf neg => ⟨0, 0, false, !neg, neg, false⟩
  | .fin neg m e => ⟨if neg then -(m : Int) else m, e, false, false, false, neg && m = 0⟩
/-- The element of a format as a record: EPR forms keep value and flags, others count as one product (R317). -/
def Epr.ofFmt (f raw : Nat) : Epr := if 6 ≤ f then Epr.ofNat f raw else Epr.ofNum (decodeNum f raw)
/-- The minimum wire or export form of an operand format (R76, R317). -/
def minForm (f : Nat) : Nat :=
  if f = 1 ∨ f = 2 ∨ f = 5 ∨ f = 6 then 6 else if f = 4 ∨ f = 8 then 8 else 7

/-! Exact arithmetic on classified values. -/

/-- Product with the invalid case 0 * infinity (R32, R112). -/
def xmul : XVal → XVal → XVal
  | .nan, _ => .nan
  | _, .nan => .nan
  | .inf a, .inf b => .inf (a != b)
  | .inf a, .fin b m _ => if m = 0 then .nan else .inf (a != b)
  | .fin a m _, .inf b => if m = 0 then .nan else .inf (a != b)
  | .fin a m e, .fin b n f => .fin (a != b) (m * n) (e + f)
/-- Signed integer of a finite value at an anchor. -/
def sint (neg : Bool) (m : Nat) : Int := if neg then -(m : Int) else m
/-- Exact sum; an exact zero sum is +0 unless both are -0. -/
def xadd : XVal → XVal → XVal
  | .nan, _ => .nan
  | _, .nan => .nan
  | .inf a, .inf b => if a = b then .inf a else .nan
  | .inf a, .fin _ _ _ => .inf a
  | .fin _ _ _, .inf b => .inf b
  | .fin a m e, .fin b n f =>
    let q := min e f
    let s := sint a (m * 2 ^ (e - q).toNat) + sint b (n * 2 ^ (f - q).toNat)
    if s = 0 then .fin (a && b) 0 0 else .fin (decide (s < 0)) s.natAbs q
/-- Negation. -/
def xneg : XVal → XVal
  | .nan => .nan
  | .inf a => .inf (!a)
  | .fin a m e => .fin (!a) m e
/-- Magnitude. -/
def xabs : XVal → XVal
  | .nan => .nan
  | .inf _ => .inf false
  | .fin _ m e => .fin false m e
/-- x is below y; false for NaN, and -0 is not below +0. -/
def xlt : XVal → XVal → Bool
  | .nan, _ => false
  | _, .nan => false
  | .inf a, .inf b => a && !b
  | .inf a, .fin _ _ _ => a
  | .fin _ _ _, .inf b => !b
  | .fin a m e, .fin b n f =>
    let q := min e f
    decide (sint a (m * 2 ^ (e - q).toNat) < sint b (n * 2 ^ (f - q).toNat))
/-- NaN test. -/
def XVal.isNaN : XVal → Bool
  | .nan => true
  | _ => false
/-- Zero test with the sign. -/
def XVal.isNeg : XVal → Bool
  | .nan => false
  | .inf a => a
  | .fin a _ _ => a
/-- Larger value: NaN if either is, +0 for -0 and +0 (Tables 4.8, 5.3). -/
def xmax (x y : XVal) : XVal :=
  if x.isNaN || y.isNaN then .nan else if xlt x y then y else if xlt y x then x else if x.isNeg then y else x
/-- Smaller value: NaN if either is, -0 for -0 and +0. -/
def xmin (x y : XVal) : XVal :=
  if x.isNaN || y.isNaN then .nan else if xlt x y then x else if xlt y x then y else if x.isNeg then x else y
/-- Clamp of v to the magnitude of y (Tables 4.8, 5.3). -/
def xclamp (v y : XVal) : XVal := xmin (xmax v (xneg (xabs y))) (xabs y)
/-- v is above zero. -/
def xpos (v : XVal) : Bool := xlt (.fin false 0 0) v
/-- The value one. -/
def xone : XVal := .fin false 1 0

/-- Quotient num/den with a sticky bit, precise enough for one rounding of at most 56 bits. -/
def ratio (neg : Bool) (num den : Nat) (e : Int) : XVal :=
  let sh := 130 + Nat.log2 den
  let q := num * 2 ^ sh / den
  let st := if num * 2 ^ sh % den = 0 then 0 else 1
  .fin neg (2 * q + st) (e - sh - 1)
/-- Division (Table 11.9). -/
def xdiv : XVal → XVal → XVal
  | .nan, _ => .nan
  | _, .nan => .nan
  | .inf _, .inf _ => .nan
  | .inf a, .fin b _ _ => .inf (a != b)
  | .fin a _ _, .inf b => .fin (a != b) 0 0
  | .fin a m e, .fin b n f =>
    if n = 0 then (if m = 0 then .nan else .inf (a != b))
    else if m = 0 then .fin (a != b) 0 0
    else ratio (a != b) m n (e - f)
/-- Integer square root by Newton steps from above, with fuel. -/
def isqrtAux (n : Nat) : Nat → Nat → Nat
  | 0, x => x
  | k + 1, x => let y := (x + n / x) / 2; if y < x then isqrtAux n k y else x
/-- Integer square root. -/
def isqrt (n : Nat) : Nat := if n = 0 then 0 else isqrtAux n (n.log2 + 8) (2 ^ (n.log2 / 2 + 1))
/-- Square root with a sticky bit (Table 11.9: -0 gives -0, a negative operand NaN). -/
def xsqrt : XVal → XVal
  | .nan => .nan
  | .inf a => if a then .nan else .inf false
  | .fin a m e =>
    if m = 0 then .fin a 0 0
    else if a then .nan
    else
      let odd := (e % 2).toNat
      let n := m * 2 ^ (odd + 260)
      let s := isqrt n
      .fin false (2 * s + (if s * s = n then 0 else 1)) ((e - odd) / 2 - 130 - 1)
/-- Reciprocal (Table 5.4). -/
def xrcp (v : XVal) : XVal :=
  match v with
  | .fin a m _ => if m = 0 then .inf a else xdiv xone v
  | _ => xdiv xone v
/-- Reciprocal square root (Table 5.4). -/
def xrsqrt : XVal → XVal
  | .nan => .nan
  | .inf a => if a then .nan else .fin false 0 0
  | .fin a m e =>
    if m = 0 then .inf a
    else if a then .nan
    else
      let odd := (e % 2).toNat
      -- 1/sqrt(m 2^e) = sqrt(2^(2k) / (m 2^odd)) 2^(-(e-odd)/2 - k)
      let d := m * 2 ^ odd
      let k := 140 + d.log2
      let n := 2 ^ (2 * k) / d
      let s := isqrt n
      let exact := s * s * d = 2 ^ (2 * k)
      .fin false (2 * s + (if exact then 0 else 1)) (-((e - odd) / 2) - k - 1)

/-! Slices (R50, R51). -/

/-- Number of slices of an operand format. -/
def sliceCount : Nat → Nat
  | 3 => 3 | 4 => 7 | _ => 1
/-- Chunk i of an operand's significand and its exponent E (R50, R51). -/
def sliceOf (f raw i : Nat) : Nat × Int :=
  let k := sliceCount f
  if f = 5 then
    match decodeNum f raw with
    | .fin _ m _ => (m, 7)
    | _ => (0, 7)
  else
    let t := fmtT f
    let e := fld raw (fmtE f + t - 1) t
    let n := (if e = 0 then 0 else 2 ^ t) + raw % 2 ^ t
    let padded := n * 2 ^ (8 * k - (t + 1))
    (padded / 2 ^ (8 * (k - 1 - i)) % 256, if e = 0 then 1 - (fmtBias f : Int) else (e : Int) - (fmtBias f : Int))
/-- Sign of an operand. -/
def signOf (f raw : Nat) : Bool := if f = 5 then raw.testBit 7 else raw.testBit (fmtE f + fmtT f)
/-- Two 1-byte operands of one kind run two products per cell per cycle (R53). -/
def paired (fa fb : Nat) : Bool :=
  (decide (fa = 1 ∨ fa = 2) && decide (fb = 1 ∨ fb = 2)) || (fa = 5 && fb = 5)

end Sys2Proof.Machine
end

