-- ==== Sys2Proof/Machine/State.lean ====
section
/-! DEFINITION. The state of the module as plain data: everything the spec gives it, the command queue, and its reset value.
A sparse table (Tbl) holds only the entries that differ from their default; the default is the reset value. -/

namespace Sys2Proof.Machine

/-- The model has no fault: every abnormal event of the spec (a program fault, an abort, a fatal fault, a failed load) is a
next state with the registers and pins the spec gives. Raised by nobody; safe. -/
inductive Fault : Type
deriving DecidableEq, Repr

/-- Why a command has no meaning. -/
inductive Refusal where
  /-- Raised by an arm of exec whose command has no meaning yet; safe. -/
  | notModelled (mnemonic : String)
deriving DecidableEq, Repr

/-! Power, pins and sensors (R18 to R21, R412 to R436). -/

/-- One die: CD[0..3] are 0 to 3, IOD[0..1] are 4 and 5. -/
structure Die where
  /-- Power state: 0 DEEP, 1 NAP, 2 RUN (R18). -/
  st : Nat := 0
  /-- Lower state being entered (R19). -/
  entering : Option Nat := none
  /-- State a wake in progress leads to (R20). -/
  waking : Option Nat := none
  /-- Wake request held until an entry in progress ends (R20). -/
  held : Option Nat := none
  /-- Context whose command holds the die (R250). -/
  ctx : Option Nat := none
  /-- Tenancy of the die's previous command (R139). -/
  tenancy : Option Nat := none
  /-- Thermal duty in sixteenths and its 100 µs ticks of cooling (R412). -/
  duty : Nat := 16
  cool : Nat := 0
  /-- The die stands at or above FLT_TEMP_WARN (R412). -/
  warned : Bool := false
deriving DecidableEq, Repr, Inhabited

/-- Pins and supplies (R417 to R433). -/
structure Pwr where
  /-- 0 off (released), 1 power-on reset, 2 running. -/
  on : Nat := 1
  /-- PWRGD rises held until 10 ms of low have passed (R426). -/
  riseHeld : Bool := false
  hbmReady : Bool := false
  /-- PERST_N asserted; cause of a warm reset in progress; its hold-off runs; a Groomer used it (R291, R430). -/
  perst : Bool := false
  warm : Option Nat := none
  holdoff : Bool := false
  used : Bool := false
  /-- Containment has ended the hold-off; the reset has yet to run (R410). -/
  due : Bool := false
  /-- DONE_N driven low by the module; the line as an outside driver leaves it. -/
  doneLow : Bool := false
  lineLow : Bool := false
  faultLow : Bool := false
  /-- Reasons of ALERT_N: bit 0 load, 1 fault, 2 environment (R423). -/
  alert : Nat := 0
  wakeLow : Bool := false
  startMode : Bool := false
  mid : Nat := 0
  /-- MID latched at power-on reset, of which the SMBus address is taken (R420, R421). -/
  midPor : Nat := 0
  /-- PCIe link: 0 down, 1 L0, 2 L1, 3 other (R417). -/
  link : Nat := 0
  /-- Functions in D3hot (R374). -/
  d3 : List Nat := []
  /-- Test access port (R417, R420): its instruction, 0 being BYPASS; the contacts that the boundary register drives low; the bypass bit;
  TDO while data shift, true released. -/
  ir : Nat := 0
  scanLow : Nat := 0
  bypass : Bool := false
  tdo : Option Bool := none
  /-- Latest sensor readings in 0.25 °C: 8u + s, then board sensors 48 to 50 (R434). -/
  temps : Tbl Nat := []
  railMv : Tbl Nat := []
  railMa : Tbl Nat := []
  /-- 10 µs samples each rail has stood above its warning current (R413). -/
  railOver : Tbl Nat := []
  watts : Nat := 0
  cap : Nat := 0
  capDuty : Nat := 16
  capCool : Nat := 0
  /-- ENV_STATUS (R422). -/
  env : Nat := 0
  /-- Clocks lost (R429). -/
  clkLost : List Nat := []
deriving DecidableEq, Repr, Inhabited

/-! Registers and host (R372 to R394). -/

/-- The BAR0 registers that are stored, their hidden parity (R386), latched and held halves (R385). -/
structure RegFile where
  v : Tbl Word := []
  par : Tbl Bool := []
  latch : Tbl Word := []
  hold : Tbl Word := []
deriving DecidableEq, Repr, Inhabited

/-- A write as handed to the PCIe controller, on a function (R200, R215): host memory, or an MSI-X message of a vector. -/
structure HostWr where
  fn : Nat := 0
  addr : Nat
  len : Nat
  relaxed : Bool
  msi : Option Nat := none
deriving DecidableEq, Repr, Inhabited

/-- A read of host memory as handed to the PCIe controller, on a function (R200). -/
structure HostRd where
  fn : Nat
  addr : Nat
  len : Nat
deriving DecidableEq, Repr, Inhabited

/-- Where a host access leads: a register of BAR0, device memory or the work bitmap through BAR2, BAR4, configuration space (R347, R375). -/
inductive HostSpace where
  | bar0 | dev | bitmap | bar4 | cfg | msix
deriving DecidableEq, Repr, Inhabited

/-- A host access; one that waits for a wake, for room in the flash buffer or behind another stands in a queue (R21, R216, R370). The
address is the device address for device memory (R376), and an offset elsewhere; be holds the byte enables of a 4-byte access. -/
structure HostAcc where
  space : HostSpace := .dev
  fn : Nat
  addr : Nat
  len : Nat
  wr : Bool
  relaxed : Bool
  data : List Byte
  be : Nat := 15
deriving DecidableEq, Repr, Inhabited

/-- The host's side of the link. -/
structure HostIf where
  /-- MSI-X tables, keyed fn * 2^16 + offset (R375, R380). -/
  msix : Tbl Nat := []
  /-- Pending bits: (function, vector). -/
  pba : List (Nat × Nat) := []
  /-- Messages sent: (function, vector), latest first. -/
  sent : List (Nat × Nat) := []
  /-- Data of the last read completion, and whether the last access ended in Unsupported Request (R382). -/
  data : List Byte := []
  ur : Bool := false
  /-- The last access ended in Configuration Request Retry Status; the time up to which configuration requests do (R432). -/
  crs : Bool := false
  crsUntil : Nat := 0
  /-- MEM_REFUSED_LO has been read since the last refused access was recorded (Table 14.10). -/
  refOpen : Bool := true
  /-- Writes handed over, latest first (R215). -/
  writes : List HostWr := []
  /-- Reads of host memory, latest first (R200). -/
  reads : List HostRd := []
  /-- PF Device Control: Max_Payload_Size and Max_Read_Request_Size codes, 128 bytes doubled as often (R372); Device Control 2: completion
  timeout range (R373). -/
  mps : Nat := 0
  mrrs : Nat := 2
  cto : Nat := 0
  /-- AER uncorrectable and correctable reports sent (R372, R408). -/
  aer : Nat := 0
  cor : Nat := 0
  /-- The link as it has trained: 128 GT/s or 64 GT/s, and its lanes (Table 14.1). -/
  gen7 : Bool := true
  width : Nat := 16
  /-- Addresses written into the functions' BARs, keyed fn * 4096 + offset in configuration space (R375). -/
  bars : Tbl Nat := []
  /-- Stored bits of the other capability dwords, keyed likewise (R372). -/
  cfg : Tbl Nat := []
  /-- Bytes of the last SMBus reply and the packet error code after them (R421, R422). -/
  smb : List Byte := []
  smbPec : Nat := 0
deriving DecidableEq, Repr, Inhabited

/-! Load, image, mailbox, flash (R330 to R371). -/

/-- A record of the image's stream (R338). -/
structure ImgRec where
  typ : Nat
  target : Nat
  body : List Byte
  pos : Nat
deriving DecidableEq, Repr, Inhabited

/-- The load in progress and the load status (R345 to R350). -/
structure Load where
  phase : Nat := 0
  attempt : Nat := 0
  code : Nat := 0
  detail : Nat := 0
  /-- Next segment; header, signature block and hash table as read; key of the next segment; plaintext so far. -/
  seg : Nat := 0
  hdr : List Byte := []
  key : List Byte := []
  stream : List Byte := []
  /-- Stream position of the next record. -/
  pos : Nat := 0
  recs : List ImgRec := []
  /-- Consecutive high samples of DONE_N (R353). -/
  high : Nat := 0
  /-- An image is active; the module has started; a fatal fault stopped the load (R410). -/
  active : Bool := false
  started : Bool := false
  stopped : Bool := false
  /-- Memory tiles a DEVICE_DATA record wrote in this load (R351). -/
  dataTiles : List Nat := []
deriving DecidableEq, Repr, Inhabited

/-- The active image's records (R338 to R343) and the measurements (R364, R365). -/
structure Image where
  version : Nat := 0
  sec : Nat := 0
  ctxTable : Nat := 0
  bitmap : Nat := 0
  memTiles : Tbl Nat := []
  allocs : List Nat := []
  regions : List Nat := []
  reqs : Tbl Nat := []
  energy : List Nat := []
  depths : List Nat := []
  /-- Groomer records, 512 bits each, keyed by die. -/
  groomer : Tbl Nat := []
  safeFw : Mem := []
  mImage : List Byte := []
  mPartial : List Byte := []
  nPartial : Nat := 0
  nCommit : Nat := 0
deriving DecidableEq, Repr, Inhabited

/-- The attestation mailbox (R366); the lock's OWNER is register CFG_MBOX_LOCK. -/
structure Mbox where
  cmd : Nat := 0
  state : Nat := 0
  err : Nat := 0
  nonce : Mem := []
  resp : List Byte := []
  cmdSeen : Bool := false
deriving DecidableEq, Repr, Inhabited

/-- Non-volatile parts: flash, its write buffer, and the rollback fuses blown in the field (R330, R336, R368, R370). -/
structure NonVol where
  flash : Mem := []
  buf : List (Nat × Byte) := []
  erase : Option Nat := none
  blown : Nat := 0
deriving DecidableEq, Repr, Inhabited

/-! Fabric and tiles (R135 to R193). -/

/-- A stream token (R156). -/
structure Token where
  data : List Byte
  stream : Nat
  epoch : Nat
  commit : Bool
deriving DecidableEq, Repr, Inhabited

/-- A commit pending at a tile (R188 to R190). -/
structure TileCommit where
  c : Nat
  arrived : Bool := false
  /-- Streams whose commit token has been delivered; emitters (Tile.emitters) that have emitted theirs; input fence complete. -/
  got : List Nat := []
  sent : List Nat := []
  fence : Bool := false
deriving DecidableEq, Repr, Inhabited

/-- A line write or update waiting at a memory tile (R144), or one that waits for a die on its way to HBM or LPDDR-5X (R21). -/
structure LineReq where
  port : Nat
  own : Nat
  /-- Requester (a tile, or a number of unitOf), queue and descriptor number; control engines use queue 4. -/
  core : Nat
  q : Nat
  seq : Nat
  ctx : Nat
  /-- Tenancy; 64 is not checked (R140). -/
  ten : Nat
  addr : Nat
  bytes : List Byte
  /-- An update: 0 MAXU32, 1 ADDU32S, its operand in bytes (R149). -/
  upd : Option Nat := none
deriving DecidableEq, Repr, Inhabited

/-- A memory-side update on its way to HBM or LPDDR-5X: 0 MAXU32, 1 ADDU32S (R149). -/
structure Upd where
  op : Nat
  addr : Nat
  val : Nat
  ctx : Nat
  core : Nat
  q : Nat := 4
deriving DecidableEq, Repr, Inhabited

/-- A blocked semaphore wait: engine 0 control, 1 channel, 2 fetch, 3 matrix or vector, 4 drain, 5 store (R133). -/
structure SemWait where
  eng : Nat
  sem : Nat
  cnt : Nat
deriving DecidableEq, Repr, Inhabited

/-- A launched list (R126). -/
structure DList where
  id : Nat
  base : Nat
  count : Nat
  chan : Nat
  ctx : Nat
  /-- Descriptors fetched and descriptors whose signal has been performed. -/
  fetched : Nat := 0
  signalled : Nat := 0
deriving DecidableEq, Repr, Inhabited

/-- A fetched descriptor (R201, R202). -/
structure Desc where
  seq : Nat
  lid : Nat
  idx : Nat
  addr : Nat
  raw : Nat
  ctx : Nat
  /-- Wait: 0 not asked, 1 blocked, 2 granted. -/
  wait : Nat := 0
  started : Bool := false
  done : Bool := false
  /-- Stream transfers: bytes still to emit, or bytes consumed so far (R171). -/
  data : List Byte := []
  off : Nat := 0
  /-- Remote reads outstanding (R202). -/
  rem : Nat := 0
  /-- Maximum magnitude recorded so far, and its word (R113). -/
  maxw : Nat := 0
  maxa : Nat := 0
  /-- Ranges that a started transfer writes, of which the pattern record is read once (R150). -/
  dst : List (Nat × Nat) := []
deriving DecidableEq, Repr, Inhabited

/-- One engine queue (R126, R201 to R204). -/
structure Eng where
  lists : List DList := []
  buf : List Desc := []
  next : Nat := 0
  /-- Queue paused by a deferral round (R96); dependence re-read done for this descriptor (R203). -/
  paused : Bool := false
  dep : Option Nat := none
  /-- The next host write carries no relaxed ordering (R215). -/
  strict : Bool := false
deriving DecidableEq, Repr, Inhabited

/-- A cell in one pass (R58). -/
structure Cell where
  win : Int := 0
  anc : Option Int := none
  fmin : Option Int := none
  fmax : Option Int := none
  lo : Option Int := none
  hi : Option Int := none
  flags : Nat := 8
  spill : Bool := false
  acc : Bool := false
  /-- Products taken in this pass. -/
  n : Nat := 0
deriving DecidableEq, Repr, Inhabited

/-- A K-chunk in the chunk buffer (R83): raw A (r, k) and B (k, c) keyed 256 r + k and 64 k + c. -/
structure Chunk where
  a : Tbl Nat
  b : Tbl Nat
  klen : Nat
  /-- Segment's descriptor number, and whether this is the segment's last chunk and the block's last. -/
  seg : Nat
  segEnd : Bool
  last : Bool
deriving DecidableEq, Repr, Inhabited

/-- A drained record (R62): block, output index, window, anchor, flags, accepted, slice offset d. -/
structure DrainRec where
  blk : Nat
  out : Nat
  win : Int
  anc : Int
  flags : Nat
  acc : Bool
  d : Nat
deriving DecidableEq, Repr, Inhabited

/-- A tank (R65): in MODE 0 its window w at anchor a; in MODE 1 the window bits hold the long-form entry's index and in MODE 2 the wide
slot's, idx. -/
structure Tank where
  w : Int := 0
  a : Int := 0
  flags : Nat := 8
  mode : Nat := 0
  empty : Bool := true
  idx : Nat := 0
deriving DecidableEq, Repr, Inhabited

/-- A long-form entry in use (R67): window, anchor, owner's output index and tank bank; an entry of the pool that is not listed has VALID
clear. -/
structure LForm where
  w : Int
  a : Int
  owner : Nat
  bank : Nat
deriving DecidableEq, Repr, Inhabited

/-- A block of the matrix engine (R88, R92): its segments' descriptors, and its tanks. -/
structure Blk where
  id : Nat := 0
  ctx : Nat := 0
  segs : List (Nat × Nat) := []
  tanks : Tbl Tank := []
  /-- Its last pass has ended. -/
  closed : Bool := false
  /-- Deferral rounds run; maxima and census folded so far (R70, R97). -/
  rounds : Nat := 0
  maxw : Nat := 0
  cvtMaxw : Nat := 0
  nan : Nat := 0
  pinf : Nat := 0
  ninf : Nat := 0
  /-- Outputs already written; wide slots in use. -/
  written : List Nat := []
  slots : List Nat := []
deriving DecidableEq, Repr, Inhabited

/-- The arrays, the chunk buffer and the drained records (R57 to R63, R71, R83, R84). -/
structure Pass where
  /-- Segments still to load, and the next k of the first of them. -/
  src : List (Nat × Nat) := []
  ldK : Nat := 0
  /-- Chunks in the buffer, at most two. -/
  half : List Chunk := []
  /-- A pass runs; its pair, and its kind: 0 first, 1 high, 2 low. -/
  running : Bool := false
  pi : Nat := 0
  pj : Nat := 0
  kind : Nat := 0
  /-- Cells that have taken products one by one; cells to re-expose with their FMAX (R61). -/
  cells : Tbl Cell := []
  top : Tbl Int := []
  /-- Bands of the pair beyond the first, and their sum over the chunk (meter 0x07). -/
  bands : Nat := 0
  reexp : Nat := 0
  /-- Records of the pass being drained and of the pass after it. -/
  recs : List DrainRec := []
  later : List DrainRec := []
  stalled : Bool := false
deriving DecidableEq, Repr, Inhabited

/-- The matrix and drain engines of an M-core (R80 to R103). -/
structure MCore where
  /-- The matrix engine's open block and its formats and shape (R93). -/
  opened : Bool := false
  afmt : Nat := 0
  bfmt : Nat := 0
  rows : Nat := 0
  cols : Nat := 0
  nblk : Nat := 0
  /-- Block being accumulated, the block behind it, and the block that waits for or is in finalisation. -/
  blk : Option Blk := none
  nxt : Option Blk := none
  prev : Option Blk := none
  pass : Pass := {}
  /-- The 512 long-form entries, by index (R67). -/
  pool : Tbl LForm := []
  /-- The following block's arrays and buffer, held during a deferral round. -/
  held : Option Pass := none
  /-- Drain descriptor taken for prev: its number and words; finalised drains whose writes are outstanding. -/
  taken : Option (Nat × Nat) := none
  fin : List Nat := []
  /-- In a deferral round; the replay list's next descriptor, and those of its transfers that run. -/
  round : Bool := false
  replay : Nat := 0
deriving DecidableEq, Repr, Inhabited

/-- One tile of any kind (R10 to R12). -/
structure Tile where
  /-- Slides: byte 4096 e + o is byte o of slide e (R175). -/
  frames : Mem := []
  /-- Slide states: 0 INVALID, 1 ACTIVE, 2 INACTIVE (R160). -/
  slide : Tbl Nat := []
  home : Nat := 0
  cur : Nat := 0
  step : Nat := 0
  loops : Tbl Nat := []
  /-- Tokens that have left the counted queue since the step began (R178). -/
  left : Nat := 0
  /-- Tokens dropped for want of a route entry (R166). -/
  missed : Nat := 0
  /-- Slide the tile waits or drains toward; slide it is changing into (R179, R180). -/
  want : Option Nat := none
  changing : Option Nat := none
  /-- Carousel descriptors held during a change: STEP, queue and number; and those whose signal waits: (queue, number) (R182). -/
  steps : List (Nat × Nat × Nat) := []
  sigs : List (Nat × Nat) := []
  queues : Tbl (List Token) := []
  /-- Firings governed so far by each unit's control head (R174). -/
  fired : Tbl Nat := []
  /-- Slides under a DISCARD write (R185). -/
  discard : List Nat := []
  commit : Option TileCommit := none
  /-- EPOCH_STALL raised (R165). -/
  stall : Bool := false
  /-- Memory tiles: slot tables (R146), round-robin pointers, requests, clock gated in NAP, ungating, lines to write back. -/
  slot : Mem := []
  rr : Tbl Nat := []
  reqs : List LineReq := []
  gated : Bool := false
  ungating : Bool := false
  wback : List Nat := []
  /-- S-cores: program area (R119). -/
  prog : Mem := []
  /-- Cores: semaphores and their flags and waits (R131 to R133). -/
  sem : Tbl Nat := []
  satHi : Nat := 0
  satLo : Nat := 0
  waits : List SemWait := []
  eng : Tbl Eng := []
  mc : MCore := {}
deriving DecidableEq, Repr, Inhabited

/-! S-cores, channels, safelight (R118 to R134, R234 to R261). -/

/-- What an S-core is blocked on. -/
inductive Block where
  | none
  | sem (n c : Nat)
  | fence (scope : Nat)
  | chwait (rd h limit : Nat)
  | chsend (rd h : Nat)
  | icp (rd : Nat)
  | icpWait (rd region : Nat)
  | done (status : Nat)
deriving DecidableEq, Repr, Inhabited

/-- An aperture load on its way: destination and the value its target served (R120, R208). -/
structure PendLd where
  rd : Nat
  val : Word
deriving DecidableEq, Repr, Inhabited

/-- An S-core (R118 to R122). -/
structure SCore where
  running : Bool := false
  ctx : Nat := 0
  pc : Nat := 0
  g : Tbl Word := []
  data : Mem := []
  args : List Nat := [0, 0, 0, 0]
  ap0 : Nat := 0
  ap1 : Nat := 0
  /-- Time base at the launch; the cycle count last read (log entry 11); the latched upper halves (R121). -/
  launch : Nat := 0
  cyc : Nat := 0
  cycHi : Nat := 0
  timeHi : Nat := 0
  block : Block := .none
  loads : List PendLd := []
  /-- Faulted, and DONE executed, in the current command. -/
  fault : Option (Nat × Nat) := none
  doneSt : Option Nat := none
deriving DecidableEq, Repr, Inhabited

/-- A record placed in a ring but not yet added to A (R239): offset, bytes with any marker, sender S-core, fully written. -/
structure Placed where
  pos : Nat
  n : Nat
  sender : Option Nat
  data : List Byte
  len : Nat
  marker : Option Nat
  visible : Bool := false
deriving DecidableEq, Repr, Inhabited

/-- A send or message that waits for space (R240, R242). -/
structure WaitSend where
  sender : Option Nat
  data : List Byte
deriving DecidableEq, Repr, Inhabited

/-- A channel that is OPEN or CLOSED (R235, R238); FREE channels have no entry. -/
structure Chan where
  closed : Bool := false
  reader : Nat := 0
  grant : Nat := 0xFFFF
  ring : Nat := 0
  size : Nat := 4096
  timeout : Nat := 25000
  wr : Nat := 0
  rd : Nat := 0
  u : Nat := 0
  a : Nat := 0
  placed : List Placed := []
  waiting : List WaitSend := []
deriving DecidableEq, Repr, Inhabited

/-- A message on its way to a channel engine (R242): 0 completion, 1 Groomer report, 2 collective. -/
structure Msg where
  ctx : Nat
  chan : Nat
  data : List Byte
  /-- Source tile, queue and last descriptor, whose writes it follows (R214). -/
  core : Nat
  kind : Nat
deriving DecidableEq, Repr, Inhabited

/-- A running, waking or draining command (R253 to R256). -/
structure Run where
  j : Nat
  cr : Nat
  tenancy : Nat
  /-- 0 in start checks or waking, 1 running, 2 draining an abort, 3 COMPLETED but its resolution waits for a die (R21). -/
  phase : Nat
  /-- S-cores that have reported DONE, with their status. -/
  done : Tbl Nat := []
  /-- 0 RUNNING, 1 COMPLETED, 2 ABORTED. -/
  outcome : Nat := 0
  reason : Nat := 0
  detail : Nat := 0
  /-- Times of becoming next, of dispatch, of launch. -/
  tNext : Nat := 0
  tDisp : Nat := 0
  tLaunch : Nat := 0
  /-- Start checks passed, so the dies are raised for it (R19); the S-cores were launched; time of the fixing of the outcome. -/
  raised : Bool := false
  launched : Bool := false
  tFix : Nat := 0
  /-- Busy tile-cycles and bytes moved, in the order of Table 10.12 from BUSY_M (R259). -/
  cnt : Tbl Nat := []
  /-- Dies whose Groomer this command has fed (R268). -/
  fed : List Nat := []
  /-- Cores outside the die set on which lists of the command were launched (R132). -/
  outside : List Nat := []
  /-- The work of a COMPLETED command has ended; what it has written may still wait for a die (R21, R25). -/
  ended : Bool := false
deriving DecidableEq, Repr, Inhabited

/-- A context as the safelight knows it (R246). -/
structure Ctx where
  state : Nat := 0
  prio : Nat := 0
  ringLog : Nat := 4
  producer : Nat := 0
  consumer : Nat := 0
  word : Nat := 0
  msix : Nat := 0
  ring : Nat := 0
  acct : Nat := 0
  seed : Nat := 0
  /-- On the ready list; commands marked for abort (R249, R255). -/
  ready : Bool := false
  marks : List Nat := []
  /-- Outcomes fixed for commands of the context: 1 COMPLETED, 2 ABORTED (R254). -/
  past : Tbl Nat := []
  /-- Next command: its record once read, its time, its progress: 0 record read pending, 1 candidate, 2 in start checks. -/
  next : Option Nat := none
  nextRec : Nat := 0
  nextAt : Nat := 0
  nextSt : Nat := 0
  /-- Place of the next or running command in the order in which the safelight has found commands (R222). -/
  nextNo : Nat := 0
  run : Option Run := none
deriving DecidableEq, Repr, Inhabited

/-- A fault or DONE event on its way to the safelight (R254). -/
structure SEvent where
  ctx : Nat
  reason : Nat
  detail : Nat
deriving DecidableEq, Repr, Inhabited

/-- The safelight's own state (R246 to R261). -/
structure Safe where
  mirror : List Nat := []
  lastTaken : Nat := 65535
  /-- Contexts whose entry read is outstanding; whose start checks are outstanding, in order (R222, R249). -/
  reads : List Nat := []
  checks : List Nat := []
  /-- Commands found so far (R222). -/
  found : Nat := 0
  /-- Contexts of a poll whose command-record read is outstanding (R250); cached contexts, latest used first (R246). -/
  recs : List Nat := []
  lru : List Nat := []
  ctx : Tbl Ctx := []
  events : List SEvent := []
  /-- DONE reports on their way: S-core numbers. -/
  reports : List Nat := []
  /-- Kept start-check results, latest first: table address and generation (R224). -/
  kept : List (Nat × Nat) := []
deriving DecidableEq, Repr, Inhabited

/-- The ICP (R356 to R363). -/
structure Icp where
  holder : Option Nat := none
  /-- Holder to break after a fault (R125). -/
  breakOf : Option Nat := none
  /-- Load in progress: S-core and image address; its frame table, depth declarations and the bytes read so far. -/
  load : Option (Nat × Nat) := none
  /-- Context of the command that the load works for (R140). -/
  ctx : Nat := 0
  frames : List Nat := []
  depths : List Nat := []
  bytes : List Byte := []
  /-- Tokens discarded by the last load, by die. -/
  disc : Tbl Nat := []
  status : Nat := 0
  requester : Nat := 0
  op : Nat := 0
  /-- Pending commits: region to (commit number, BARRIER hold); request records of pending commits, for R365. -/
  pend : Tbl Nat := []
  hold : Tbl Bool := []
  reqRec : Tbl (List Byte) := []
  /-- Quiescent regions with the slides (8 * tile + slide) whose rewrite ends it (R360). -/
  quiet : Tbl (List Nat) := []
  lastC : Nat := 0
deriving DecidableEq, Repr, Inhabited

/-! Groomer (R262 to R295). -/

/-- A state block in the window (R271). -/
structure GBlk where
  addr : Nat
  bytes : List Byte
  resumed : Bool
deriving DecidableEq, Repr, Inhabited

/-- A block in the write stage, or a working copy that waits for its block (R280, R291). -/
structure GWrite where
  addr : Nat
  bytes : List Byte
  wc : List (Nat × Nat)
  /-- Maximum word and magnitude that the working copies record (R280). -/
  maxw : Option (Nat × Nat) := none
deriving DecidableEq, Repr, Inhabited

/-- An entry being worked on (R267, R282 to R290): its schedule entry and rule record as read. -/
structure GEnt where
  entry : Nat
  step : Nat
  ctx : Nat
  raw : Nat
  rule : Nat := 0
  /-- Parameters received; blocks staged; phase: 0 receiving, 1 norm reduce, 2 applying, 3 waits for its go word, 4 phase 2, 5 digest
  outstanding, 6 last entry whose report waits for the step's end. -/
  got : Nat := 0
  put : Nat := 0
  phase : Nat := 0
  nan : Nat := 0
  pinf : Nat := 0
  ninf : Nat := 0
  sum : Epr := Epr.empty
  /-- Outcome of Table 11.13, blocks found at step T, digest so far. -/
  held : Nat := 0
  resumed : Nat := 0
  digest : Nat := 0
  gmax : Nat := 0
deriving DecidableEq, Repr, Inhabited

/-- One Groomer; its position and halt are registers (R268, R290). -/
structure Groomer where
  /-- Input queue of at most 512 records of a form (R272). -/
  inq : List Nat := []
  form : Nat := 7
  win : List GBlk := []
  stage : List GWrite := []
  /-- Entry whose gradients arrive; entries in phases 1 to 4; entries in phases 5 and 6. -/
  cur : Option GEnt := none
  mats : List GEnt := []
  digs : List GEnt := []
  /-- Go words notified: addresses. -/
  go : List Nat := []
  /-- The step was partial; a digest mismatched; CLEAR_HALT waits for the boundary (R287, R290, R394). -/
  partialStep : Bool := false
  mismatch : Bool := false
  clear : Bool := false
  /-- A step's boundary waits for outstanding entries (R283); the step. -/
  closing : Option Nat := none
  /-- Context for which the Groomer prefetches (R271). -/
  ctx : Option Nat := none
  /-- A reset request's hold-off is on: the write stage admits no block (R291). -/
  stopped : Bool := false
deriving DecidableEq, Repr, Inhabited

/-! Ersan (R296 to R329). -/

/-- A port (R297 to R301). -/
structure Port where
  /-- 0 down, 1 training, 2 up, 3 asleep. -/
  st : Nat := 0
  partner : Nat := 0
  cause : Nat := 0
  /-- Has gone down and is out of service until RESTORE; counts as gone down for routing (R297, R304). -/
  gone : Bool := false
  lost : Bool := false
  txSeq : Nat := 0
  rxSeq : Nat := 0
  /-- Sent but unacknowledged flits, oldest first, and how often each was resent. -/
  retry : List Flit := []
  resent : List Nat := []
  /-- Flits queued for want of credit, of a wake or of training, each with the port whose buffer it occupies. -/
  txq : List (Option Nat × Flit) := []
  /-- Credits used at the partner by lane; flits owed to the partner by lane. -/
  used : Tbl Nat := []
  owed : Tbl Nat := []
  /-- A gap or bad CRC was seen: flits are discarded until the resent one (R300). -/
  gap : Bool := false
  /-- The last IDLE or RETRY sent (R299, R300). -/
  ctl : Option Flit := none
deriving DecidableEq, Repr, Inhabited

/-- An outstanding remote access of this module (R309, R312). -/
structure Txn where
  id : Nat
  kind : Nat
  addr : Nat
  len : Nat
  got : Nat := 0
  core : Nat
  q : Nat
  seq : Nat
  ctx : Nat
  /-- Destination of read data, and offset in the transfer. -/
  off : Nat := 0
  data : List Byte := []
deriving DecidableEq, Repr, Inhabited

/-- A request at the target (R309): 0 read, 1 write, 2 exact-accumulate; the I/O die that received it; its data so far; the window entry
under which it was accepted (R311). -/
structure RxReq where
  src : Nat
  txn : Nat
  kind : Nat
  win : Nat
  off : Nat
  len : Nat
  io : Nat
  data : List Byte
  entry : Nat := 0
deriving DecidableEq, Repr, Inhabited

/-- A READY kept for a key by the engine of an I/O die (R319). -/
structure Ready where
  eng : Nat
  group : Nat
  space : Nat
  tag : Nat
  src : Nat
  op : Nat
  form : Nat
  n : Nat
deriving DecidableEq, Repr, Inhabited

/-- A posted collective (R315 to R324): its descriptor (Table 12.10) or one that a Groomer posts. -/
structure Coll where
  raw : Nat
  space : Nat := 0
  ctx : Nat := 0
  /-- Posting S-core, or Groomer die for spaces 1 and 2; schedule entry for those. -/
  by_ : Nat := 0
  entry : Nat := 0
  /-- This module's inputs in wire form. -/
  inp : List Byte := []
  /-- MIDs whose READY is here; data received by MID and position; bytes sent by MID. -/
  heard : List Nat := []
  rx : Tbl (Tbl (List Byte)) := []
  sent : Tbl Nat := []
  /-- Outputs are done; the wire result of a Groomer's collective. -/
  fin : Bool := false
  out : List Byte := []
  /-- Records still to hand to a Groomer, once it serves the descriptor (R322); credits withheld meanwhile: (port, lane). -/
  feed : List Nat := []
  fed : Bool := false
  owe : List (Nat × Nat) := []
  /-- A Groomer has posted it while its engine's I/O die was in DEEP; the engine has yet to take it (R17, R21). -/
  idle : Bool := false
deriving DecidableEq, Repr, Inhabited

/-- A key abandoned here: whether this module had posted it, and the status and MID of the ABANDON (R321). -/
structure DeadKey where
  group : Nat
  space : Nat
  tag : Nat
  mine : Bool
  status : Nat
  cause : Nat
deriving DecidableEq, Repr, Inhabited

/-- Ersan as a whole. -/
structure Ersan where
  mid : Nat := 0
  midSrc : Bool := false
  domain : Nat := 0
  postOff : Nat := 0
  faultMid : Nat := 0
  faultCode : Nat := 0
  port : Tbl Port := []
  route : Tbl Nat := []
  spread : Tbl (List Nat) := []
  /-- Slot moves in progress: key 16 mid + slot, to a port, with the flits held: the die each comes from, and its input port (R304). -/
  moving : Tbl Nat := []
  heldF : List (Nat × Nat × Option Nat × Flit) := []
  /-- Flits that wait for a die in DEEP that they cross (R21, R305): the die each comes from, and its input port. -/
  crossing : List (Nat × Option Nat × Flit) := []
  /-- Accepted requests of which a reply may still wait for its port (R19). -/
  replies : List RxReq := []
  win : Tbl Nat := []
  group : Tbl Nat := []
  lists : Tbl (List Nat) := []
  txns : List Txn := []
  nextTxn : Nat := 0
  rx : List RxReq := []
  /-- Accepted requests that wait for a die to leave DEEP (R21). -/
  asleep : List RxReq := []
  /-- Accepted writes and exact-accumulates not yet complete at their target, which are still to be answered (R309). -/
  acks : List RxReq := []
  coll : Tbl (List Coll) := []
  ready : List Ready := []
  dead : List DeadKey := []
  /-- TAKEN per post area, keyed 64 x + n; areas stopped by a posting fault; areas with a notice. -/
  taken : Tbl Nat := []
  stopped : List Nat := []
  notice : List Nat := []
deriving DecidableEq, Repr, Inhabited

/-! Meters and faults (R395 to R415). -/

/-- One meter's fields (R395); its configuration registers are in RegFile. -/
structure Meter where
  count : Nat := 0
  sum : Nat := 0
  min : Nat := 0xFFFFFFFF
  max : Nat := 0
  bins : Tbl Nat := []
  missed : Nat := 0
  since : Nat := 0
  /-- Count accumulated over the period (R396). -/
  acc : Nat := 0
deriving DecidableEq, Repr, Inhabited

/-- Meters, the snapshot (R400), fault latches (R414) and error marks (R407, R415). -/
structure Mon where
  meter : Tbl Meter := []
  snap : Meter := { min := 0xFFFFFFFF }
  snapNo : Nat := 0
  snapSpan : Nat := 0
  fltState : Nat := 0
  was : Bool := false
  first : Nat := 0x3FF * 2 ^ 19
  firstAddr : Nat := 0
  firstTime : Nat := 0
  fltCount : Nat := 0
  /-- Pending injection mark: (KIND, address) (R415). -/
  inject : Option (Nat × Nat) := none
  /-- Times of corrections within the window, by class (R405); class already reported in this window. -/
  corr : Tbl (List Nat) := []
  reported : Tbl Nat := []
deriving DecidableEq, Repr, Inhabited

/-- The module. -/
structure Mod where
  /-- SAFECLK cycles since power-on (R388), and the count of free values drawn. -/
  time : Nat
  fresh : Nat
  pw : Pwr
  dies : List Die
  reg : RegFile
  host : HostIf
  ld : Load
  img : Image
  mbox : Mbox
  /-- Device memory (unlisted bytes read 0) and host memory. -/
  mem : Mem
  hmem : Mem
  tile : Tbl Tile
  /-- Updates on their way (R149); requests to HBM and LPDDR-5X that wait for a die (R21); accesses that raised a die and are tried
  again when it is awake: (requester, address); host accesses that wait, oldest first (R21, R216, R370). -/
  upd : List Upd
  far : List LineReq
  parked : List (Nat × Nat)
  sleepers : List HostAcc
  sc : Tbl SCore
  chan : Tbl Chan
  chanFree : Nat
  msgs : List Msg
  safe : Safe
  icp : Icp
  grm : Tbl Groomer
  ers : Ersan
  mon : Mon
deriving DecidableEq, Repr

/-- The state: the commands that wait, the non-volatile parts, and the module. -/
structure State where
  pending : List Instr
  nv : NonVol
  m : Mod
deriving DecidableEq, Repr

/-- The module as power-on reset leaves it: nothing listed, every register at its reset value (R8, R430). -/
def Mod.reset : Mod :=
  { time := 0, fresh := 0, pw := {}, dies := [{}, {}, {}, {}, {}, {}], reg := {}, host := {}, ld := {}, img := {}, mbox := {},
    mem := [], hmem := [], tile := [], upd := [], far := [], parked := [], sleepers := [], sc := [], chan := [], chanFree := 16384, msgs := [], safe := {},
    icp := {}, grm := [], ers := {}, mon := {} }

/-- The state right after reset: power-on reset in progress, no command waiting (log entry 5). -/
def State.reset : State := { pending := [], nv := {}, m := Mod.reset }

/-- The effect of a command that a clock of the module drives: none in a module that a fatal fault has contained, whose clocks stand (R408). -/
def State.live (s : State) (f : Mod → Mod) : State := if s.m.mon.fltState = 0 then { s with m := f s.m } else s
/-- A command's effect on the module alone. -/
def State.on (s : State) (f : Mod → Mod) : State := { s with m := f s.m }

end Sys2Proof.Machine
end

