-- ==== Sys2Proof/Machine/Geometry.lean ====
section
/-! DEFINITION. Dies, tiles, home tiles, the address map and the fixed paths (R10 to R16, R135 to R144, R248). -/

namespace Sys2Proof.Machine

/-- Kind of a tile (Table 1.2). -/
inductive TileKind where
  | port | mem | mcore | vcore | score | none
deriving DecidableEq, Repr

/-- Die, row and column of a tile identity (R10). -/
def tDie (t : Nat) : Nat := fld t 9 8
def tRow (t : Nat) : Nat := fld t 7 4
def tCol (t : Nat) : Nat := fld t 3 0
/-- Tile identity of a position. -/
def tileAt (d c r : Nat) : Nat := d * 256 + r * 16 + c

/-- Kind of a tile (R11, Table 1.2); rows 12 to 15 name no tile. -/
def kindOf (t : Nat) : TileKind :=
  if 1024 ≤ t then .none
  else
    let e := tCol t % 2 = 0
    match tRow t with
    | 0 => .port
    | 1 => if e then .mem else .score
    | 2 | 4 | 6 => if e then .mcore else .mem
    | 3 | 5 => if e then .mem else .mcore
    | 7 | 9 => .vcore
    | 8 => if e then .mem else .vcore
    | 10 => .mem
    | 11 => if e then .vcore else .score
    | _ => .none

/-- Cores of a strip in the order of Table 1.3, as (odd column, row) with their home tiles in the same form. -/
def stripCores : List ((Nat × Nat) × List (Nat × Nat)) :=
  [((1, 1), [(0, 1)]), ((0, 2), [(0, 1), (1, 2)]), ((1, 3), [(1, 2), (0, 3)]), ((0, 4), [(0, 3), (1, 4)]),
   ((1, 5), [(1, 4), (0, 5)]), ((0, 6), [(0, 5), (1, 6)]), ((1, 7), [(1, 6)]), ((0, 7), [(0, 8)]), ((1, 8), [(0, 8)]),
   ((0, 9), [(0, 10)]), ((0, 11), [(0, 10)]), ((1, 9), [(1, 10)]), ((1, 11), [(1, 10)])]

/-- Home tiles of a core (R12). -/
def homesOf (t : Nat) : List Nat :=
  match stripCores.find? (fun p => p.1 == (tCol t % 2, tRow t)) with
  | some p => p.2.map (fun q => tileAt (tDie t) (tCol t / 2 * 2 + q.1) q.2)
  | none => []
/-- Home tile 0 of a core. -/
def home0 (t : Nat) : Nat := nth 0 (homesOf t) 0

/-- Positions of memory tile numbers within a strip (Table 6.1). -/
def memPos : List (Nat × Nat) := [(0, 1), (1, 2), (0, 3), (1, 4), (0, 5), (1, 6), (0, 8), (0, 10), (1, 10)]
/-- Tile identity of memory tile mt = 72 d + j (R135). -/
def mtTile (mt : Nat) : Nat :=
  let j := mt % 72
  let p := nth (0, 0) memPos (j % 9)
  tileAt (mt / 72) (j / 9 * 2 + p.1) p.2
/-- Number mt of a memory tile. -/
def mtOf (t : Nat) : Nat := tDie t * 72 + tCol t / 2 * 9 + (memPos.findIdx (fun p => p == (tCol t % 2, tRow t)))
/-- First device address of the scratchpad, and of memory tile mt (R136). -/
def spBase : Nat := 0x080000000000
def mtBase (mt : Nat) : Nat := spBase + mt * 0x400000
/-- Device address of tile offset 0 of a memory tile given by identity. -/
def tileBase (t : Nat) : Nat := mtBase (mtOf t)

/-- Requesters are numbered: a tile by its identity, the Groomer of CD[d] 1024 + d, the Ersan receive engine of IOD[x] 1028 + x, its
collective engine 1030 + x, the safelight 1032, the host 1033 and the ICP 1034. -/
def groomerId (d : Nat) : Nat := 1024 + d
def ersanId (io : Nat) : Nat := 1024 + io
def collId (x : Nat) : Nat := 1030 + x
def safeId : Nat := 1032
def hostId : Nat := 1033
def icpId : Nat := 1034
/-- Die a requester stands on; the safelight and the host path stand on IOD[0] (R14). -/
def unitOf (u : Nat) : Nat := if u < 1024 then tDie u else if u < 1030 then u - 1024 else if u < 1032 then u - 1026 else 4

/-- Home port of memory tile mt that serves a core: 0 for the core earlier in Table 1.3, 1 for the later, 2 the fabric (R144). -/
def portOf (mt core : Nat) : Nat :=
  let t := mtTile mt
  if core < 1024 ∧ tDie core = tDie t ∧ tCol core / 2 = tCol t / 2 then
    let sharers := stripCores.filter (fun p => p.2.contains (tCol t % 2, tRow t))
    let i := sharers.findIdx (fun p => p.1 == (tCol core % 2, tRow core))
    if i < 2 then i else 2
  else 2

/-- Where an address lies (Table 1.7): HBM of a die, LPDDR-5X of an I/O die, a memory tile. -/
inductive Target where
  | hbm (d : Nat) | lp (x : Nat) | sp (mt : Nat) | none
deriving DecidableEq, Repr

/-- Target of a device address (R16). -/
def targetOf (a : Nat) : Target :=
  if a < 0x012000000000 then .hbm (a / 0x004800000000)
  else if 0x020000000000 ≤ a ∧ a < 0x050000000000 then .lp ((a - 0x020000000000) / 0x018000000000)
  else if spBase ≤ a ∧ a < spBase + 0x48000000 then .sp ((a - spBase) / 0x400000)
  else .none
/-- The die a target lies on. -/
def Target.die : Target → Option Nat
  | .hbm d => some d
  | .lp x => some (4 + x)
  | .sp mt => some (mt / 72)
  | .none => Option.none
/-- A byte range lies wholly in Table 1.7, without crossing from one tier or I/O die into a gap. -/
def mapped (a n : Nat) : Bool :=
  n = 0 || (targetOf a != .none && targetOf (a + n - 1) != .none &&
    ((a < 0x012000000000) == (a + n - 1 < 0x012000000000)) && ((a < 0x050000000000) == (a + n - 1 < 0x050000000000)))
/-- The range lies in HBM of die d. -/
def inHbm (a n : Nat) : Bool := mapped a n && decide (a + n ≤ 0x012000000000)
/-- The range lies in LPDDR-5X. -/
def inLp (a n : Nat) : Bool := mapped a n && decide (0x020000000000 ≤ a) && decide (a < 0x050000000000)
/-- The range lies in scratchpad. -/
def inSp (a n : Nat) : Bool := mapped a n && decide (spBase ≤ a)
/-- The range lies in the scratchpad of die d. -/
def inSpOf (d a n : Nat) : Bool := decide (mtBase (72 * d) ≤ a) && decide (a + n ≤ mtBase (72 * d + 72))
/-- The range lies in one memory tile. -/
def inOneTile (a n : Nat) : Bool := inSp a n && decide ((a - spBase) / 0x400000 = (a + n - 1 - spBase) / 0x400000)

/-- S-core number of a tile (R248). -/
def scOf (t : Nat) : Nat := 16 * tDie t + 2 * (tCol t / 2) + (if tRow t = 11 then 1 else 0)
/-- Tile of an S-core number. -/
def scTile (n : Nat) : Nat := tileAt (n / 16) (2 * (n % 16 / 2) + 1) (if n % 2 = 1 then 11 else 1)

/-- HBM stack of an address of CD[d]'s HBM, HBM[3d] to HBM[3d + 2], interleaved every 4 KiB (R9, R16, Tables 1.1 and 1.7). -/
def hbmStack (a : Nat) : Nat := 3 * (a / 0x004800000000) + a % 0x004800000000 / 4096 % 3
/-- LPDDR-5X channel of an address of IOD[x]'s LPDDR-5X, LP[12x] to LP[12x + 11], interleaved every 4 KiB (R9, R16). -/
def lpChannel (a : Nat) : Nat := 12 * ((a - 0x020000000000) / 0x018000000000) + (a - 0x020000000000) % 0x018000000000 / 4096 % 12
/-- What the columns of port tiles serve (R13, Table 1.4): columns 2 to 7 two each an HBM stack of their die. -/
def columnStack (d c : Nat) : Option Nat := if 2 ≤ c ∧ c ≤ 7 then some (3 * d + (c - 2) / 2) else none

/-- Compute die beside I/O die x in the row of compute die d. -/
def beside (x d : Nat) : Nat := 2 * (d / 2) + x
/-- Dies a path from die u to die v crosses, both ends included (R14); 4 and 5 are the I/O dies. Ersan transit flits have their own paths
(R305). For any other access from one I/O die to the other's LPDDR-5X the spec gives no row: DESIGN CHOICE, it crosses CD[0] and CD[1]
(log entry 74). -/
def pathDies (u v : Nat) : List Nat :=
  let mid (a b : Nat) : List Nat :=
    -- row bridge first, then column bridge
    if a = b then [a] else if a / 2 = b / 2 ∨ a % 2 = b % 2 then [a, b] else [a, (if a % 2 = 0 then a + 1 else a - 1), b]
  if u < 4 then (if v < 4 then mid u v else mid u (beside (v - 4) u) ++ [v])
  else if v < 4 then u :: mid (beside (u - 4) v) v
  else if u = v then [u] else [u, beside (u - 4) 0, beside (v - 4) 0, v]

/-- Router neighbour in direction d, and the input the token enters (R163, Table 7.3); none off the grid or off the package. -/
def neighbour (t d : Nat) : Option (Nat × Nat) :=
  let c := tCol t
  let r := tRow t
  let x := tDie t
  if d = 0 then
    if 0 < r then some (tileAt x c (r - 1), 2)
    else if 8 ≤ c ∧ c ≤ 11 then some (tileAt (if x % 2 = 0 then x + 1 else x - 1) c 0, 0)
    else if 12 ≤ c then some (tileAt ((x + 2) % 4) c 0, 0)
    else none
  else if d = 1 then (if c < 15 then some (tileAt x (c + 1) r, 3) else none)
  else if d = 2 then (if r < 11 then some (tileAt x c (r + 1), 0) else none)
  else if 0 < c then some (tileAt x (c - 1) r, 1) else none

/-- Places of a queue (R163). -/
def queueCap (t qid : Nat) : Nat := if tRow t = 0 ∧ qid / 8 = 0 then 128 else 32

/-- The 768 tiles in increasing identity. -/
def allTiles : List Nat := (List.range 1024).filter (fun t => kindOf t != .none)
/-- The tiles of a die. -/
def dieTiles (d : Nat) : List Nat := (List.range 192).map (fun i => d * 256 + i)

end Sys2Proof.Machine
end

