-- ==== Sys2Proof/Machine/Registers.lean ====
section
/-! DEFINITION. Stored registers, their masks and parity, event registers and MSI-X (R380 to R394, R402, R414, R417). -/

namespace Sys2Proof.Machine

/-- Field masks of a register by access code (Table 0.4), its reset value and the bits a warm reset keeps. -/
structure RegRow where
  rw : Nat := 0
  rwp : Nat := 0
  rc : Nat := 0
  wo : Nat := 0
  reset : Nat := 0
  keep : Nat := 0
deriving DecidableEq, Repr

/-- Rows of Tables 14.5 to 14.11, 15.3, 15.8 and 12.17 that hold something; every other register reads a computed value. -/
def regRows : List (Nat × RegRow) :=
  [(0x20, { rc := 0xF }), (0x24, { rwp := 0x7FF, keep := 0x7FF }),
   (0x100004, { rwp := 0x7FF, reset := 25, keep := 0x7FF }), (0x100008, { rwp := 0x3FFF, reset := 20, keep := 0x3FFF }),
   (0x10000C, { rwp := 0xFFFFFF, reset := 5000, keep := 0xFFFFFF }), (0x100010, { rwp := 0xFFF, keep := 0xFFF }),
   (0x100014, { wo := 0xFFFF000F }), (0x100018, { rc := 3 }), (0x10001C, { rwp := 0x7FF }),
   (0x200200, { rc := 3 }), (0x200204, { rwp := 0x7FF }),
   (0x300010, { rw := 0xFFFF }), (0x300020, { rwp := 1 }), (0x300024, { wo := 0x0FFF0003 }), (0x300028, { rc := 2 }),
   (0x300030, { wo := 0xFFFF0001 }), (0x300080, { rc := 0x1F }), (0x300084, { rwp := 0x7FF })] ++
  [(0x400000, { rw := 0x7FF }), (0x400004, { rwp := 0xFFF }), (0x400008, { rwp := 0xFFFFFFFF }),
   (0x40000C, { rwp := 0xFFFFFFFF, reset := 1 }), (0x400010, { rwp := 0x1FFFF, reset := 0x10000 }),
   (0x400014, { rwp := 0x1FFFF, reset := 0x10000 }), (0x400018, { rwp := 0xFF }),
   (0x40001C, { rwp := 0xFFFFFF, reset := 25000, keep := 0xFFFFFF }),
   (0x50001C, { wo := 1 }), (0x500020, { rc := 0x3F }), (0x500024, { rwp := 0x7FF, keep := 0x7FF }),
   (0x500030, { rc := 0xFFFFFFFF }), (0x500034, { rc := 0xFFFFFFFF }), (0x500038, { rc := 0xFFFFFFFF }),
   (0x50003C, { rc := 0xFFFFFFFF }), (0x500040, { rwp := 0xFFFF, reset := 1000 }), (0x500068, { rwp := 0xFF, reset := 95 }),
   (0x50006C, { rwp := 0xFF, reset := 100 }), (0x500080, { wo := 0xFFFF0007 }), (0x500084, { rw := 0xFFFFFFFF }),
   (0x500088, { rw := 0xFFFF })] ++
  [(0x600010, { rwp := 0xFFFF, reset := 20 }), (0x600014, { rwp := 0xFFFF, reset := 50 }),
   (0x600018, { rwp := 0xFFFF, reset := 50 }), (0x60001C, { rwp := 0xFF, reset := 10 }),
   (0x600020, { rc := 0xFF }), (0x600024, { rwp := 0x7FF }), (0x600200, { rw := 0xFFF }), (0x600224, { wo := 3 }),
   (0x600240, { rw := 0x3FF }), (0x600254, { wo := 3 }), (0x600300, { rc := 0xFFFFFFFF }), (0x600304, { rc := 0xFFFFFFFF }),
   (0x600308, { rc := 0xFFFFFFFF }), (0x60030C, { rc := 0xFFFFFFFF }), (0x600310, { rc := 0xFFFFFFFF }),
   (0x700000, { rwp := 0xC0000000 }), (0x700004, { rwp := 0xFFFF }), (0x700010, { rc := 3 }), (0x700014, { rwp := 0x7FF }),
   (0x700018, { rc := 0xFFFFFFFF }), (0x70001C, { rc := 0xFFFFFFFF }),
   (0x800040, { rc := 0xFFF }), (0x800044, { wo := 0xF }), (0x800048, { keep := 0xF }), (0x80004C, { rwp := 0x7FF })]

/-- Row of an offset, with the indexed registers computed. -/
def regRow? (off : Nat) : Option RegRow :=
  match regRows.find? (fun p => p.1 == off) with
  | some p => some p.2
  | none =>
    if off % 4 ≠ 0 then none
    else if 0x200100 ≤ off ∧ off < 0x200200 then some { rwp := 7, reset := 7, keep := 7 }
    else if 0x600180 ≤ off ∧ off < 0x600200 then some { rwp := 1, wo := 2, reset := 1, keep := 1 }
    else if 0x600204 ≤ off ∧ off < 0x600224 then some { rw := 0xFFFFFFFF }
    else if 0x600244 ≤ off ∧ off < 0x600254 then some { rw := 0xFFFFFFFF }
    else if 0x700108 ≤ off ∧ off < 0x700300 then
      (if off % 8 = 0 then some { rwp := 0xC0000000, keep := 0xC0000000 } else some { rwp := 0x7FFFF, keep := 0x7FFFF })
    else if 0x800000 ≤ off ∧ off < 0x800040 ∧ off % 16 = 0 then some { rwp := 0xFFFFFFFF, keep := 0xFFFFFFFF }
    else if 0x800000 ≤ off ∧ off < 0x800040 ∧ off % 16 = 4 then some { rwp := 0x0FFFFFFF, keep := 0x0FFFFFFF }
    else if 0x10000000 ≤ off then regRows.find? (fun p => p.1 == 0x400000 + off % 0x40) |>.map (fun p => p.2)
    else none

/-- Key under which the configuration register at a MON offset is stored for a meter (R402). -/
def meterKey (meter off : Nat) : Nat := 0x10000000 + 0x40 * meter + off % 0x40
/-- Reset value of a register. -/
def regReset (off : Nat) : Nat := ((regRow? off).map (·.reset)).getD 0
/-- Parity of a word (R386). -/
def parity (x : Nat) : Bool := (List.range 32).foldl (fun b i => b != x.testBit i) false

/-- Stored value of a register. -/
def RegFile.get (r : RegFile) (off : Nat) : Nat := ((tget? r.v off).map (·.toNat)).getD (regReset off)
/-- Store a register and recompute its parity (R386). -/
def RegFile.put (r : RegFile) (off v : Nat) : RegFile :=
  { r with v := tset r.v off (BitVec.ofNat 32 v), par := tset r.par off (parity (v % 2 ^ 32)) }
/-- The parity of a register agrees with its value, or it has no RWP field (R386). -/
def RegFile.sound (r : RegFile) (off : Nat) : Bool :=
  ((regRow? off).map (·.rwp)).getD 0 == 0 || (match tget? r.par off with | some b => b == parity (r.get off) | none => true)
/-- The parity of every RWP register that holds one agrees with its value (R386). -/
def RegFile.parityOk (r : RegFile) : Bool := r.par.all (fun p => r.sound p.1)

/-- BAR2 and the closed BAR0 blocks answer: an image is active and no fatal fault is contained (R347, R409). -/
def Mod.opened (m : Mod) : Bool := m.ld.active && m.mon.fltState == 0
/-- The registers a warm reset leaves: kept fields, and the configuration of meters (R8, R401). MON_PERIOD, which neither is marked as kept
nor belongs to one meter, counts as configuration of the meters and is kept: DESIGN CHOICE (log entry 98). -/
def RegFile.warm (r : RegFile) : RegFile :=
  let v := r.v.filterMap (fun p =>
    if 0x10000000 ≤ p.1 then some p
    else match regRow? p.1 with
      | some x => if x.keep = 0 then none
                  else some (p.1, BitVec.ofNat 32 ((p.2.toNat &&& x.keep) + (x.reset &&& (2 ^ 32 - 1 - x.keep))))
      | none => none)
  { v := v, par := v.map (fun p => (p.1, parity p.2.toNat)) }

/-- Register of the module. -/
def Mod.rg (m : Mod) (off : Nat) : Nat := m.reg.get off
/-- Store a register of the module. -/
def Mod.rput (m : Mod) (off v : Nat) : Mod := { m with reg := m.reg.put off v }

/-- A message of a function can leave: the link is in L0 or L1 and the function is not in D3hot (Table 16.2, WAKE_N). -/
def Mod.canSend (m : Mod) (fn : Nat) : Bool :=
  (m.pw.link == 1 || m.pw.link == 2) && !(m.pw.d3.contains fn)
/-- A host access of a function reaches its BARs: power-on reset is over, PERST_N is released, the function is not in D3hot (R347, R374,
R432). -/
def Mod.hostReach (m : Mod) (fn : Nat) : Bool := m.ld.phase != 0 && !m.pw.perst && !m.pw.d3.contains fn
/-- Result of a host access: read data, and whether it ended in Unsupported Request. -/
def Mod.answer (m : Mod) (data : List Byte) (ur : Bool) : Mod := { m with host := { m.host with data := data, ur := ur, crs := false } }
/-- A configuration request ends in Configuration Request Retry Status (R432). -/
def Mod.answerRetry (m : Mod) : Mod := { m with host := { m.host with data := [], ur := false, crs := true } }
/-- Stored bits of a dword of a function's configuration space. -/
def Mod.cfgBits (m : Mod) (fn off : Nat) : Nat := tget 0 m.host.cfg (4096 * fn + off)
/-- A dword of a function's MSI-X table; a vector is masked until its entry is written (R380; log entry 7). -/
def Mod.msixEntry (m : Mod) (fn off : Nat) : Nat := (tget? m.host.msix (fn * 65536 + off)).getD (if off % 16 = 12 then 1 else 0)
/-- MSI-X of a function is enabled: Message Control in the capability at 0x80, bit 31 of its dword (R380; log entries 7 and 92). -/
def Mod.msixOn (m : Mod) (fn : Nat) : Bool := bitAt (m.cfgBits fn 0x80) 31
/-- A vector may not be sent: MSI-X is not enabled, the function's mask is set, or its own (R380; log entry 7). -/
def Mod.masked (m : Mod) (fn vec : Nat) : Bool :=
  !m.msixOn fn || bitAt (m.cfgBits fn 0x80) 30 || bitAt (m.msixEntry fn (vec * 16 + 12)) 0
/-- A message leaves to its entry's address: a write with the relaxed-ordering attribute clear, handed over behind the earlier ones (R215). -/
def Mod.sendMsix (m : Mod) (fn vec : Nat) : Mod :=
  { m with host := { m.host with
      sent := (fn, vec) :: m.host.sent,
      writes := ⟨fn, m.msixEntry fn (vec * 16) + 2 ^ 32 * m.msixEntry fn (vec * 16 + 4), 4, false, some vec⟩ :: m.host.writes } }
/-- Send an MSI-X message, or leave it pending; WAKE_N falls while the link or D3hot alone holds one of the PF (R380, R417). -/
def Mod.msix (m : Mod) (fn vec : Nat) : Mod :=
  if m.masked fn vec || !m.canSend fn then
    { m with host := { m.host with pba := if m.host.pba.contains (fn, vec) then m.host.pba else m.host.pba ++ [(fn, vec)] },
             pw := { m.pw with wakeLow := m.pw.wakeLow || (fn == 0 && !m.masked fn vec) } }
  else m.sendMsix fn vec
/-- Send every pending message that can leave (R380, R417). -/
def Mod.flushMsix (m : Mod) : Mod :=
  let ok := m.host.pba.filter (fun p => !m.masked p.1 p.2 && m.canSend p.1)
  let rest := m.host.pba.filter (fun p => m.masked p.1 p.2 || !m.canSend p.1)
  let m1 := ok.foldl (fun m p => m.sendMsix p.1 p.2) m
  { m1 with host := { m1.host with pba := rest },
            pw := { m1.pw with wakeLow := rest.any (fun p => p.1 == 0 && !m.masked 0 p.2 && !m.canSend 0) } }

/-- Vector register of an event register (R381). -/
def eventVec : Nat → Option Nat
  | 0x20 => some 0x24
  | 0x100018 => some 0x10001C
  | 0x200200 => some 0x200204
  | 0x300080 => some 0x300084
  | 0x500020 => some 0x500024
  | 0x600020 => some 0x600024
  | 0x700010 => some 0x700014
  | 0x800040 => some 0x80004C
  | _ => none
/-- Setting bits of an event register uses its vector: the value leaves zero (R381). -/
def Mod.evSends (m : Mod) (off bits : Nat) : Option Nat := if m.rg off = 0 ∧ bits ≠ 0 then eventVec off else none
/-- Set bits of an event register; its vector is sent when the value leaves zero (R381), unless its parity is wrong, which raiseEv and
fatalReport report (R386). -/
def Mod.putEv (m : Mod) (off bits : Nat) : Mod :=
  let m1 := m.rput off (m.rg off ||| bits)
  match m.evSends off bits with
  | some v => if m.reg.sound v then m1.msix 0 (m1.rg v) else m1
  | none => m1
/-- The vector that setting these bits uses has a wrong parity (R386). -/
def Mod.evUnsound (m : Mod) (off bits : Nat) : Bool := (m.evSends off bits).any (fun v => !m.reg.sound v)
/-- Add to a saturating 32-bit counter register (R258, R405, R329). -/
def Mod.bump (m : Mod) (off n : Nat) : Mod := m.rput off (satAdd 32 (m.rg off) n)

/-- Offset of FLT_EVENT, ERS_EVENT, CFG_EVENT, GRM_STATUS and the others by name. -/
def evGlb : Nat := 0x20
def evSafe : Nat := 0x100018
def evCtx : Nat := 0x200200
def evCfg : Nat := 0x300080
def evFlt : Nat := 0x500020
def evErs : Nat := 0x600020
def evMem : Nat := 0x700010
def evGrm : Nat := 0x800040

/-- Draw a free value (log entry 1). -/
def Mod.draw (m : Mod) : Nat × Mod := (Config.free m.fresh, { m with fresh := m.fresh + 1 })

end Sys2Proof.Machine
end

