-- ==== Sys2Proof/Machine/Ops.lean ====
section
/-! DEFINITION. The named operations over memory, tiles, dies, contexts and faults that the meanings share. -/

namespace Sys2Proof.Machine

/-- A tile, a context, an S-core, an engine queue, a port: accessors and updates. -/
def Mod.t (m : Mod) (i : Nat) : Tile := tget {} m.tile i
def Mod.tput (m : Mod) (i : Nat) (t : Tile) : Mod := { m with tile := tset m.tile i t }
def Mod.cx (m : Mod) (c : Nat) : Ctx := tget {} m.safe.ctx c
def Mod.cxput (m : Mod) (c : Nat) (x : Ctx) : Mod := { m with safe := { m.safe with ctx := tset m.safe.ctx c x } }
def Mod.s (m : Mod) (n : Nat) : SCore := tget {} m.sc n
def Mod.sput (m : Mod) (n : Nat) (c : SCore) : Mod := { m with sc := tset m.sc n c }
def Mod.e (m : Mod) (t q : Nat) : Eng := tget {} (m.t t).eng q
def Mod.eput (m : Mod) (t q : Nat) (e : Eng) : Mod := m.tput t { m.t t with eng := tset (m.t t).eng q e }
def Mod.die (m : Mod) (d : Nat) : Die := nth {} m.dies d
def Mod.dput (m : Mod) (d : Nat) (x : Die) : Mod := { m with dies := lset m.dies d x }
def Mod.g (m : Mod) (d : Nat) : Groomer := tget {} m.grm d
def Mod.gput (m : Mod) (d : Nat) (g : Groomer) : Mod := { m with grm := tset m.grm d g }
def Mod.port (m : Mod) (p : Nat) : Port := tget {} m.ers.port p
def Mod.pput (m : Mod) (p : Nat) (x : Port) : Mod := { m with ers := { m.ers with port := tset m.ers.port p x } }
/-- The running command of a context. -/
def Mod.run? (m : Mod) (c : Nat) : Option Run := (m.cx c).run
/-- Change the running command of a context. -/
def Mod.runMap (m : Mod) (c : Nat) (f : Run → Run) : Mod :=
  match m.run? c with
  | some r => m.cxput c { m.cx c with run := some (f r) }
  | none => m
/-- Tenancy of a context (R244). -/
def tenOf (c : Nat) : Nat := c / 1024

/-- No command: an access that no command is charged with and no tenancy is checked for. -/
def noCtx : Nat := 65536
/-- Charge bytes to a command: index in Table 10.12 from BUSY_M (R259). -/
def Mod.charge (m : Mod) (c i n : Nat) : Mod := if c = noCtx then m else m.runMap c (fun r => { r with cnt := tset r.cnt i (tget 0 r.cnt i + n) })
/-- Counter a target charges. -/
def Target.chargeIx : Target → Nat
  | .hbm _ => 6
  | .lp _ => 7
  | _ => 5

/-- A command fault on its way to the safelight (R254). -/
def Mod.cmdFault (m : Mod) (c reason detail : Nat) : Mod :=
  match m.run? c with
  | some r => if r.outcome = 0 then { m with safe := { m.safe with events := m.safe.events ++ [⟨c, reason, detail⟩] } } else m
  | none => m

/-! Memory. -/

/-- Bytes of device memory as their targets hold them. -/
def Mod.rd (m : Mod) (a n : Nat) : List Byte := mread 0 m.mem a n
/-- A little-endian value of device memory (R4). -/
def Mod.rdn (m : Mod) (a n : Nat) : Nat := leNat (m.rd a n)
/-- Home tile offset of the doorbell line of S-core n's post area on IOD[x] (R314). -/
def Mod.bell (m : Mod) (n x : Nat) : Nat := tileBase (home0 (scTile n)) + m.ers.postOff + x * 0x2000 + 0x1000
/-- GO word address of a schedule entry's words (Table 11.5). -/
def goOf (raw : Nat) : Nat := fld raw 943 896 
/-- Go words a Groomer watches. -/
def Groomer.watch (g : Groomer) : List Nat :=
  ((g.cur.toList ++ g.mats).filter (fun e => bitAt e.raw 288)).map (fun e => goOf e.raw)
/-- Notices of a write of n bytes at a: doorbells (R314) and go words (R282). -/
def Mod.notices (m : Mod) (a n : Nat) : Mod :=
  let hit (w : Nat) : Bool := decide (a < w + 4) && decide (w < a + n)
  let bells := if m.ld.active ∧ spBase ≤ a + n then
      (List.range 128).filter (fun k => hit (m.bell (k % 64) (k / 64)) && !m.ers.notice.contains k) else []
  { m with ers := { m.ers with notice := m.ers.notice ++ bells },
           grm := m.grm.map (fun p => (p.1, { p.2 with go := p.2.go ++ (p.2.watch.filter (fun w => hit w && !p.2.go.contains w)) })) }
/-- Write bytes at their target; watchers are notified. -/
def Mod.wr (m : Mod) (a : Nat) (bs : List Byte) : Mod := { m with mem := mwrite 0 m.mem a bs }.notices a bs.length
/-- Zero a range; no watcher is notified (R139). -/
def Mod.zero (m : Mod) (a n : Nat) : Mod := { m with mem := mclear m.mem a n }
/-- Hand a write of a function to the PCIe controller (R200, R215). -/
def Mod.hostWr (m : Mod) (fn a : Nat) (bs : List Byte) (relaxed : Bool) : Mod :=
  { m with hmem := mwrite 0 m.hmem a bs, host := { m.host with writes := ⟨fn, a, bs.length, relaxed, none⟩ :: m.host.writes } }

/-- A memory update's result (Table 6.8). -/
def updResult (op old v : Nat) : Nat := if op = 0 then max old v else satAdd 32 old v
/-- Owner byte of a memory tile (Table 13.10); resident, and open to a tenancy (R140). -/
def Mod.memByte (m : Mod) (mt : Nat) : Nat := tget 0 m.img.memTiles mt
def Mod.resident (m : Mod) (mt : Nat) : Bool := bitAt (m.memByte mt) 7
def Mod.tenOk (m : Mod) (mt ten : Nat) : Bool :=
  ten == 64 || !m.resident mt || fld (m.memByte mt) 6 0 == 64 || fld (m.memByte mt) 6 0 == ten

/-- Cut bytes at multiples of k. -/
def cutEvery (k : Nat) : Nat → Nat → List Byte → List (Nat × List Byte)
  | 0, _, _ => []
  | f + 1, a, bs => if bs.isEmpty then [] else let j := k - a % k; (a, bs.take j) :: cutEvery k f (a + j) (bs.drop j)
/-- Cut bytes at 64-byte lines (R138). -/
def cutLines (f a : Nat) (bs : List Byte) : List (Nat × List Byte) := cutEvery 64 f a bs

/-! Banks (R136, R144 to R148). -/

/-- Bank of an address (R136). -/
def bankOf (a : Nat) : Nat := a / 64 % 16
/-- Owner code of a bank's slot-table entry (Tables 6.6, 7.8). -/
def Tile.slotEntry (t : Tile) (bank i : Nat) : Nat := fld (leNat (mread 0 t.slot (8 * bank) 8)) (4 * i + 2) (4 * i)
/-- The bank reserves an entry for an owner. -/
def Tile.reserves (t : Tile) (bank own : Nat) : Bool := own != 0 && (List.range 16).any (fun i => t.slotEntry bank i == own)
/-- The slot table reserves any entry of the tile (R147). -/
def Tile.reservesAny (t : Tile) : Bool := (List.range 16).any (fun b => (List.range 16).any (fun i => t.slotEntry b i != 0))
/-- Port by which a request competes at a bank: none while it is privileged there; the fabric port for a privileged requestor that
has no reserved entry (R147). -/
def Tile.competes (t : Tile) (bank : Nat) (r : LineReq) : Option Nat :=
  if r.own = 0 then some r.port else if t.reserves bank r.own then none else some 2
/-- The pointer of a bank after a request has been served: past its port, or as it was for a privileged one (R145). -/
def Tile.pass (t : Tile) (bank : Nat) (r : LineReq) : Tbl Nat :=
  match t.competes bank r with
  | some k => tset t.rr bank ((k + 1) % 3)
  | none => t.rr
/-- The request a bank serves in a cycle (R145, R147): that of the cycle's owner, else the head of the first port's queue from the pointer
on. -/
def Tile.pick (t : Tile) (bank cycle : Nat) : Option Nat :=
  let here := t.reqs.zipIdx.filter (fun p => bankOf p.1.addr == bank)
  let own := t.slotEntry bank (cycle % 16)
  let p := tget 0 t.rr bank
  match here.find? (fun q => own != 0 && q.1.own == own && t.reserves bank own) with
  | some q => some q.2
  | none => ([0, 1, 2].map (fun i => (p + i) % 3)).findSome? (fun k => (here.find? (fun q => t.competes bank q.1 == some k)).map (fun q => q.2))
/-- A bank serves cycle by cycle, by a serving function, until no request that a test picks waits at it (R145, R147). -/
def Mod.runBank (sv : Mod → Nat → LineReq → Mod) (mt bank : Nat) (p : LineReq → Bool) : Nat → Nat → Mod → Mod
  | 0, _, m => m
  | f + 1, cycle, m =>
    let t := m.t (mtTile mt)
    if !t.reqs.any (fun r => bankOf r.addr == bank && p r) then m
    else match t.pick bank cycle with
      | none => Mod.runBank sv mt bank p f (cycle + 1) m
      | some k => match t.reqs[k]? with
        | none => m
        | some r => Mod.runBank sv mt bank p f (cycle + 1) (sv (m.tput (mtTile mt) { t with reqs := ldel t.reqs k, rr := t.pass bank r }) mt r)
/-- Cycle of the slot tables at which a run of a bank begins: a free value where the tile reserves any entry, for commands carry no cycle;
without meaning elsewhere (R146; log entry 100). -/
def Mod.slotPhase (m : Mod) (t : Tile) : Nat × Mod := if t.reservesAny then (Config.free m.fresh % 16, { m with fresh := m.fresh + 1 }) else (0, m)
/-- Cycles within which a bank serves k requests whatever its slot table says. -/
def bankFuel (k : Nat) : Nat := 17 * (k + 1)
/-- The banks of a memory tile serve until no request that a test picks waits there. -/
def Mod.runTile (sv : Mod → Nat → LineReq → Mod) (mt : Nat) (p : LineReq → Bool) (m : Mod) : Mod :=
  let r := m.slotPhase (m.t (mtTile mt))
  (List.range 16).foldl (fun m b => Mod.runBank sv mt b p (bankFuel (m.t (mtTile mt)).reqs.length) r.1 m) r.2
/-- The banks of every memory tile of the dies that a test admits serve until no request that another test picks waits there. -/
def Mod.runBanks (m : Mod) (sv : Mod → Nat → LineReq → Mod) (die : Nat → Bool) (p : Nat → LineReq → Bool) : Mod :=
  m.tile.foldl (fun m kv =>
    if kv.2.reqs.any (p (mtOf kv.1)) && die (tDie kv.1) then Mod.runTile sv (mtOf kv.1) (p (mtOf kv.1)) m else m) m
/-- The 8-byte words that a write names only in part, by address: the bank reads them first (R138). -/
def partWords (a n : Nat) : List Nat :=
  (if a % 8 ≠ 0 ∨ n < 8 then [a / 8 * 8] else []) ++ (if (a + n) % 8 ≠ 0 ∧ (a + n) / 8 ≠ a / 8 then [(a + n) / 8 * 8] else [])
/-- Tenancy under which a requester's accesses are checked: a command's, or none for the Ersan receive engines, the Groomers, the host path
and the safelight (R140). The ICP reads for the command of its S-core. -/
def tenBy (u c : Nat) : Nat := if u < 1024 ∨ 1030 ≤ u ∧ u < 1032 ∨ u = icpId then tenOf c else 64

/-! Fatal faults and containment (R406 to R410). -/

/-- Device address of an offset in home tile h. -/
def homeAddr (core h off : Nat) : Nat := tileBase (nth 0 (homesOf core) h) + off
/-- KIND of a descriptor (Table 8.1). -/
def hKind (x : Nat) : Nat := fld x 7 0
/-- The drain descriptor that belongs to the first block not finalised (R88, R94). -/
def Tile.drainRaw (t : Tile) : Option Nat :=
  match t.mc.taken with
  | some p => some p.2
  | none => ((tget {} t.eng 2).buf.find? (fun d => !d.started && hKind d.raw == 0x22)).map (·.raw)
/-- Formats and shape of a block. -/
def Blk.shape (b : Blk) : Nat := (nth (0, 0) b.segs 0).2
/-- The wide area of a block with an FP64 operand, by its extension record: base and length (R68). -/
def Blk.wideArea (b : Blk) (xr : Nat) : Option (Nat × Nat) :=
  if (fld b.shape 35 32 = 4 ∨ fld b.shape 39 36 = 4) ∧ bitAt xr 313 then some (fld xr 239 192, 544 * (fld xr 255 240 + 1)) else none
/-- The wide area of the first block not finalised, by extension records as a function reads them (R68). -/
def Tile.wideArea (t : Tile) (xrec : Nat → Nat) : Option (Nat × Nat) :=
  match (if t.mc.prev.isSome then t.mc.prev else t.mc.blk), t.drainRaw with
  | some b, some x => b.wideArea (xrec x)
  | _, _ => none
/-- Bytes that the spec leaves undefined from here on are free values. -/
def Mod.forget (m : Mod) (a n : Nat) : Mod :=
  { m.wr a ((List.range n).map (fun k => BitVec.ofNat 8 (Config.free (m.fresh + k)))) with fresh := m.fresh + n }
/-- The wide areas of the blocks that these tiles held are lost (R68). -/
def Mod.forgetWide (m : Mod) (ts : List (Nat × Tile)) : Mod :=
  ts.foldl (fun m p =>
    match p.2.wideArea (fun x => m.rdn (homeAddr p.1 0 (fld x 236 215)) 64) with
    | some (a, n) => m.forget a n
    | none => m) m
/-- Drop everything the engines and S-cores of a tile hold. -/
def Tile.halt (t : Tile) : Tile := { t with eng := [], mc := {}, waits := [] }
/-- Bytes a request leaves at its address (R149). -/
def Mod.reqBytes (m : Mod) (r : LineReq) : List Byte :=
  match r.upd with
  | some op => natLE 4 (updResult op (m.rdn r.addr 4) (leNat r.bytes))
  | none => r.bytes
/-- A write that a memory has accepted completes during containment, its tenancy still checked (R140, R408 step 3). An error met in a word
that it names in part is counted: as one more fatal fault, and the write is not performed, or as a correction (R138, R410). -/
def Mod.lastWrite (m : Mod) (r : LineReq) : Mod :=
  let a := r.addr
  let bs := m.reqBytes r
  let ok : Bool := match targetOf a with | .sp mt => m.tenOk mt r.ten | _ => true
  if bs.isEmpty || !ok then m
  else match m.mon.inject with
    | none => m.wr a bs
    | some (kind, w) =>
      if !(partWords a bs.length).contains w then m.wr a bs
      else
        let m1 : Mod := { m with mon := { m.mon with inject := none } }
        if kind % 2 = 0 then { m1 with mon := { m1.mon with fltCount := satAdd 16 m1.mon.fltCount 1 } }
        else (m1.bump (match targetOf w with | .sp _ => 0x500030 | _ => 0x500034) 1).wr a bs
/-- Every request accepted by a memory completes during containment, at each bank in the order of R145 (R408 step 3). -/
def Mod.settle (m : Mod) : Mod :=
  let m1 := m.runBanks (fun m _ r => m.lastWrite r) (fun _ => true) (fun _ _ => true)
  let m2 := m1.upd.foldl (fun m u => m.lastWrite ⟨2, 0, u.core, u.q, 0, u.ctx, tenBy u.core u.ctx, u.addr, natLE 4 u.val, some u.op⟩) m1
  let m3 := m2.far.foldl Mod.lastWrite m2
  { m3 with upd := [], far := [], parked := [] }
/-- Working-copy writes of a stage entry. -/
def Mod.putWc (m : Mod) (wc : List (Nat × Nat)) : Mod := wc.foldl (fun m p => m.wr p.1 (natLE 2 p.2)) m
/-- Record the maximum of a stage entry's working copies (R280). -/
def Mod.putMaxw (m : Mod) (x : Option (Nat × Nat)) : Mod :=
  match x with
  | some p => m.wr p.1 (natLE 4 (updResult 0 (m.rdn p.1 4) p.2))
  | none => m
/-- Issue the writes of every Groomer's write stage, with what they record, and stop the Groomers, whose positions and halts are registers
(R280, R291, R408). -/
def Mod.flushStages (m : Mod) : Mod :=
  let m1 := m.grm.foldl (fun m p => p.2.stage.foldl (fun m w => ((if w.bytes.isEmpty then m else m.wr w.addr w.bytes).putWc w.wc).putMaxw w.maxw) m) m
  { m1 with grm := [] }
/-- A lane may hold one more flit at the partner (R301): 32 places of its own, 768 shared, at most 544. -/
def Port.mayUse (x : Port) (vl : Nat) : Bool :=
  let u := tget 0 x.used vl
  decide (u < 544) && (decide (u < 32) || decide (((List.range 8).map (fun l => tget 0 x.used l - 32)).sum < 768))
/-- Link fields of the next flit that leaves: LACK, and the credits of the first lane that is owed some (R299 to R301). -/
def Port.stamp (x : Port) (f : Flit) (seq : Nat) : Flit × Port :=
  let l := nth 0 ((List.range 8).filter (fun l => decide (0 < tget 0 x.owed l))) 0
  let n := Nat.min 31 (tget 0 x.owed l)
  ({ f with lseq := seq, lack := (x.rxSeq + 4095) % 4096, creditVl := l, credits := n }, { x with owed := tset x.owed l (tget 0 x.owed l - n) })
/-- Queued flits leave in order, lane by lane as credits allow; with the buffers they occupied (R300, R301). -/
def Port.pump : Nat → Port → List (Option Nat × Flit) → Port × List (Nat × Nat)
  | 0, x, skip => ({ x with txq := skip ++ x.txq }, [])
  | n + 1, x, skip =>
    match x.txq with
    | [] => ({ x with txq := skip }, [])
    | (i, f) :: rest =>
      if x.st = 2 ∧ !x.gone ∧ x.mayUse f.vl ∧ x.retry.length < 1024 then
        let r := x.stamp f x.txSeq
        let y : Port := { r.2 with txq := rest, txSeq := (x.txSeq + 1) % 4096, retry := x.retry ++ [r.1], resent := x.resent ++ [0],
                                   used := tset x.used f.vl (tget 0 x.used f.vl + 1) }
        let z := y.pump n skip
        (z.1, (match i with | some p => [(p, f.vl)] | none => []) ++ z.2)
      else ({ x with txq := rest } : Port).pump n (skip ++ [(i, f)])
/-- A flit of this module enters its port's queue. -/
def Port.send (x : Port) (f : Flit) : Port := (({ x with txq := x.txq ++ [(none, f)] } : Port).pump (x.txq.length + 1) []).1

/-- Steps 1 and 2 of Table 15.6: the first fault since the last CLEAR is latched, every engine and S-core stops (R408, R414;
log entry 9). -/
def Mod.fatalStop (m : Mod) (code unit tile addr : Nat) : Mod :=
  { m with
    mon := if m.mon.first % 65536 = 0 then
        { m.mon with fltState := 1, was := true, first := code % 65536 + (unit % 8) * 2 ^ 16 + (tile % 1024) * 2 ^ 19,
                     firstAddr := addr % 2 ^ 48, firstTime := m.time }
      else { m.mon with fltState := 1, was := true, fltCount := satAdd 16 m.mon.fltCount 1 },
    pw := { m.pw with faultLow := true, holdoff := false, due := m.pw.due || m.pw.holdoff },
    icp := { m.icp with load := none, frames := [], depths := [], bytes := [] },
    sc := m.sc.map (fun p => (p.1, { p.2 with running := false, block := .none, loads := [] })),
    tile := m.tile.map (fun p => (p.1, p.2.halt)),
    chan := [], msgs := [],
    safe := { ctx := [], mirror := m.safe.mirror, lastTaken := m.safe.lastTaken },
    ers := { m.ers with coll := [], txns := [], rx := [], crossing := [], replies := [], asleep := [], acks := [], ready := [], notice := [] },
    ld := { m.ld with active := false, stopped := m.ld.stopped || (decide (1 ≤ m.ld.phase) && decide (m.ld.phase ≤ 4)) } }
/-- A FAULT flit (Table 12.3). -/
def faultFlit (src dst code : Nat) : Flit :=
  { typ := 0x30, vl := 0, hops := 31, dst := dst, src := src, xacc := false, last := true, txn := 0, keyA := 0, keyB := 0, keyC := code,
    payload := [], lseq := 0, lack := 0, creditVl := 0, credits := 0 }
/-- Step 4: FAULT on every port still up (R326). -/
def Mod.fatalFlits (m : Mod) (code : Nat) : Mod :=
  { m with ers := { m.ers with port := m.ers.port.map (fun p =>
      if p.2.st = 2 ∧ !p.2.gone then (p.1, p.2.send (faultFlit m.ers.mid p.2.partner code)) else p) } }
/-- An error is handed to the PF's AER: a bit of its status register, the uncorrectable one at 0x104 or the correctable one at 0x110, and a
report (R372, R408; log entry 92). -/
def Mod.aerError (m : Mod) (off bit : Nat) : Mod :=
  { m with host := { m.host with cfg := tset m.host.cfg off (m.cfgBits 0 off ||| 2 ^ bit),
                                 aer := if off = 0x104 then m.host.aer + 1 else m.host.aer,
                                 cor := if off = 0x110 then m.host.cor + 1 else m.host.cor } }
/-- Steps 5 and 6: reports, unless the host link is the fault or is down (R410); then contained. -/
def Mod.fatalReport (m : Mod) (code : Nat) : Mod :=
  let m1 : Mod :=
    if code = 0x0F0A ∨ m.pw.link = 0 then m.rput evFlt (m.rg evFlt ||| 1)
    else (m.putEv evFlt 1).aerError 0x104 22
  -- a wrong parity of the vector is one more fatal fault
  let more := code ≠ 0x0F0A ∧ m.pw.link ≠ 0 ∧ m.evUnsound evFlt 1 = true
  { m1 with pw := { m1.pw with alert := m1.pw.alert ||| 2 },
            mon := { m1.mon with fltState := 2, fltCount := if more then satAdd 16 m1.mon.fltCount 1 else m1.mon.fltCount } }
/-- A fatal fault: the containment sequence of Table 15.6, or one more count after the first (R408, R410). What blocks held in wide areas
is lost with them (R68). -/
def Mod.fatal (m : Mod) (code unit tile addr : Nat) : Mod :=
  if m.mon.fltState ≠ 0 then
    { m with mon := { m.mon with fltCount := satAdd 16 m.mon.fltCount 1 } }
  else ((((m.fatalStop code unit tile addr).settle.forgetWide m.tile).flushStages).fatalFlits code).fatalReport code

/-- CFG_PARITY (R386; log entry 44). -/
def Mod.parityFault (m : Mod) : Mod := m.fatal 0x0F08 4 0x3FF 0
/-- A use of RWP registers checks their parity first: a mismatch is fatal, and the use does not take place (R386). -/
def Mod.using (m : Mod) (offs : List Nat) (k : Mod → Mod) : Mod := if offs.all m.reg.sound then k m else m.parityFault
/-- Set bits of an event register; its vector is used, and sent, when the value leaves zero (R381, R386). -/
def Mod.raiseEv (m : Mod) (off bits : Nat) : Mod := if m.evUnsound off bits then (m.putEv off bits).parityFault else m.putEv off bits

/-- An access to an address outside Table 1.7 (R16, R406). -/
def Mod.unmappedFault (m : Mod) (core a : Nat) : Mod := m.fatal 0x0F09 (unitOf core) (if kindOf core = .none then 0x3FF else core) a

/-! Wakes (R20, R21). -/

/-- Ask a die to reach at least a state: at once if it stands there, after an entry in progress otherwise (R20). -/
def Mod.wakeTo (m : Mod) (d st : Nat) : Mod :=
  let x := m.die d
  if x.entering.isSome then m.dput d { x with held := some (max st (x.held.getD 0)) }
  else if st ≤ x.st then m
  else m.dput d { x with waking := some (max st (x.waking.getD 0)) }
/-- A die is in DEEP or on its way into it (R20). -/
def Mod.sleeps (m : Mod) (d : Nat) : Bool := (m.die d).st == 0 || (m.die d).entering == some 0
/-- An access from die u to die v raises every die in DEEP on its path to NAP (R21). -/
def Mod.raisePath (m : Mod) (u v : Nat) : Mod :=
  (pathDies u v).foldl (fun m d => if m.sleeps d then m.wakeTo d 1 else m) m
/-- Every die of the path and the target itself stand above DEEP (R21). -/
def Mod.pathAwake (m : Mod) (u a : Nat) : Bool :=
  match (targetOf a).die with
  | some v => (pathDies u v).all (fun d => !m.sleeps d)
  | none => true
/-- Dies that a range of addresses reaches, from its first byte to its last. -/
def spanDies (a n : Nat) : List Nat :=
  match (targetOf a).die, (targetOf (a + n - 1)).die with
  | some x, some y => (List.range (y + 1 - x)).map (fun i => x + i)
  | _, _ => []
/-- Every byte of a range can be reached by a requester's unit. -/
def Mod.awake (m : Mod) (u a n : Nat) : Bool := (spanDies a n).all (fun v => (pathDies u v).all (fun d => !m.sleeps d))
/-- An access reaches a target: dies are raised and a gated memory tile starts to ungate (R21). -/
def Mod.touch (m : Mod) (u : Nat) (tg : Target) : Mod :=
  match tg.die with
  | some v =>
    let m1 := m.raisePath u v
    match tg with
    | .sp mt => let t := m1.t (mtTile mt); if t.gated then m1.tput (mtTile mt) { t with ungating := true } else m1
    | _ => m1
  | none => m

/-! Corrected errors and injected ones (R405, R415). -/

/-- Die of a meter (R395). -/
def meterDie (k : Nat) : Nat := if k < 1024 then k / 256 else 4 + (k - 1024) / 64
/-- Stored configuration registers of a die's meters, which every sample uses (R386, R402). -/
def Mod.meterRegs (m : Mod) (d : Nat) : List Nat :=
  (m.reg.v.map (·.1)).filter (fun o => decide (0x10000000 ≤ o) && meterDie ((o - 0x10000000) / 0x40) == d)
/-- Add to the count that a period quantity accumulates in the meters of a die (R396). -/
def Mod.count (m : Mod) (q d v : Nat) (sel : Option Nat) : Mod :=
  m.using (m.meterRegs d) fun m =>
  let cfgs := m.reg.v.filter (fun p => decide (0x10000000 ≤ p.1) && p.1 % 0x40 == 4)
  let step (t : Tbl Meter) (p : Nat × Word) : Tbl Meter :=
    let k := (p.1 - 0x10000000) / 0x40
    if meterDie k == d && bitAt p.2.toNat 9 && fld p.2.toNat 7 0 == q && (decide (4 ≤ d) || (m.die d).st != 0)
        && (match sel with | some x => m.rg (meterKey k 0x18) == x | none => true) then
      let x := tget {} t k
      tset t k { x with acc := x.acc + v }
    else t
  { m with mon := { m.mon with meter := cfgs.foldl step m.mon.meter } }
/-- A single-bit error of class 0 SRAM, 1 HBM, 2 LPDDR-5X, 3 host link, which AER reports as well (R372), is corrected and counted; the rate is checked once per
window of 25,000,000 SAFECLK cycles (R405). -/
def Mod.corrected (m : Mod) (cls die : Nat) : Mod :=
  let m0 : Mod := if cls = 3 then m.aerError 0x110 0 else m
  let m1 := (m0.bump (0x500030 + 4 * cls) 1).count 0x16 die 1 none
  if !m1.reg.sound 0x500040 then m1.parityFault else
  let ts := ((tget [] m1.mon.corr cls).filter (fun t => decide (m1.time < t + 25000000))) ++ [m1.time]
  let m2 := { m1 with mon := { m1.mon with corr := tset m1.mon.corr cls ts } }
  let rate := m2.rg 0x500040
  let due : Bool := match tget? m2.mon.reported cls with | some t => decide (t + 25000000 ≤ m2.time) | none => true
  if rate != 0 && decide (rate ≤ ts.length) && due then
    ({ m2 with mon := { m2.mon with reported := tset m2.mon.reported cls m2.time } } : Mod).raiseEv evFlt 2
  else m2
/-- A read of n bytes at a meets the pending mark: a corrected error, or the memory's fatal fault (R415). -/
def Mod.readMark (m : Mod) (a n : Nat) : Mod :=
  match m.mon.inject with
  | none => m
  | some (kind, w) =>
    if w < a + n ∧ a < w + 8 then
      let m1 := { m with mon := { m.mon with inject := none } }
      match targetOf w with
      | .sp mt =>
        if kind % 2 = 1 then
          let t := m1.t (mtTile mt)
          (m1.tput (mtTile mt) { t with wback := t.wback ++ [w / 64 * 64] }).corrected 0 (mt / 72)
        else m1.fatal 0x0F01 (mt / 72) (mtTile mt) w
      | .hbm d => if kind % 2 = 1 then m1.corrected 1 d else m1.fatal 0x0F02 d 0x3FF w
      | _ => m1
    else m
/-- A read whose data cannot be delivered: the mark was uncorrectable. -/
def Mod.uncorrectable (m : Mod) (a n : Nat) : Bool :=
  match m.mon.inject with
  | some (kind, w) => kind % 2 == 0 && decide (w < a + n) && decide (a < w + 8)
  | none => false

/-! Regions and quiescence (R342, R360). -/

/-- Bit of a tile in TILES (R342). -/
def tileBit (t : Nat) : Nat := 192 * tDie t + 16 * tRow t + tCol t
/-- A tile lies in a region. -/
def inRegion (r t : Nat) : Bool := decide (tRow t < 12) && bitAt r (tileBit t)
/-- A tile lies in a quiescent region. -/
def Mod.quietTile (m : Mod) (t : Nat) : Bool := m.icp.quiet.any (fun p => inRegion (nth 0 m.img.regions p.1) t)

/-! Meters (R395 to R401). -/

/-- A meter, and its configuration registers (R402). -/
def Mod.mcfg (m : Mod) (k off : Nat) : Nat := m.rg (meterKey k off)
/-- Bin of a sample (R397). -/
def binOf (cfg base width v : Nat) : Nat :=
  if bitAt cfg 8 then
    let sh := min (fld cfg 11 10) 2
    if v < 2 ^ sh then 0 else min 31 (Nat.log2 v - sh + 1)
  else if v < base then 0 else min 31 ((v - base) / max width 1)
/-- Record one sample (R396). -/
def Meter.take (x : Meter) (cfg base width v0 : Nat) : Meter :=
  let v := Nat.min v0 0xFFFFFFFF
  let b := binOf cfg base width v
  { x with count := (x.count + 1) % 2 ^ 48, sum := satAdd 64 x.sum v, min := Nat.min x.min v, max := Nat.max x.max v,
           bins := tset x.bins b (satAdd 32 (tget 0 x.bins b) 1) }
/-- Whether a quantity lists the tile filter, the context filter (Table 15.2). -/
def qTile (q : Nat) : Bool := [1, 2, 3, 4, 5, 6, 7, 8, 9, 10, 11, 12, 16].contains q
def qCtx (q : Nat) : Bool := [1, 2, 3, 5, 6, 7, 10, 13, 15, 17, 18, 19].contains q
/-- A meter that is enabled, attached to q on die d, and whose filters pass (R396, R399). -/
def Mod.meterHit (m : Mod) (k q d : Nat) (tile ctx : Option Nat) : Bool :=
  let cfg := m.mcfg k 4
  meterDie k == d && bitAt cfg 9 && fld cfg 7 0 == q && (decide (4 ≤ d) || (m.die d).st != 0)
  && (!qTile q || bitAt (m.mcfg k 0x10) 16 || tile == some (fld (m.mcfg k 0x10) 9 0))
  && (!qCtx q || bitAt (m.mcfg k 0x14) 16 || ctx == some (fld (m.mcfg k 0x14) 15 0))
/-- Offer a sample of an event quantity to the meters of its die; the meters that are configured are those with registers. -/
def Mod.sample (m : Mod) (q d : Nat) (tile ctx : Option Nat) (v : Nat) : Mod :=
  m.using (m.meterRegs d) fun m =>
  let ks := ((m.reg.v.filter (fun p => decide (0x10000000 ≤ p.1) && p.1 % 0x40 == 4)).map (fun p => (p.1 - 0x10000000) / 0x40)).filter
    (fun k => m.meterHit k q d tile ctx)
  { m with mon := { m.mon with meter := ks.foldl (fun t k =>
      tset t k ((tget {} t k).take (m.mcfg k 4) (m.mcfg k 8) (m.mcfg k 0xC) v)) m.mon.meter } }

/-- Offer a sample that counts cycles: the model has no cycle timing, so its value is a free value (log entry 46). -/
def Mod.latency (m : Mod) (q d : Nat) (tile ctx : Option Nat) : Mod := let r := m.draw; r.2.sample q d tile ctx (r.1 % 2 ^ 32)

/-! Engine accesses. -/

/-- Slot owner code of an engine (Table 6.6, R148): named requestors 4 and 5. -/
def Mod.slotOwner (m : Mod) (core q : Nat) : Nat :=
  let eng := if q = 0 then 0 else if q = 2 then 3 else if q = 3 then 4 else if q = 1 then (if kindOf core = .mcore then 1 else 2) else 7
  let w (i : Nat) : Nat := tget 0 m.img.reqs (2 * tDie core + i)
  let hit (i : Nat) : Bool := bitAt (w i) 15 && fld (w i) 9 0 == core && fld (w i) 12 10 == eng
  if hit 0 then 4 else if hit 1 then 5 else 0
/-- Owner code of a requester at a memory tile: the receive engines everywhere, Groomers and named requestors on their own die
(Table 6.6). -/
def Mod.ownOf (m : Mod) (u q mt : Nat) : Nat :=
  if u < 1024 then (if tDie u = mt / 72 then m.slotOwner u q else 0)
  else if u < 1028 then (if mt / 72 = u - 1024 then 3 else 0)
  else if u < 1030 then u - 1027 else 0
/-- A line request stands ahead of a later access by a requester through its port: it competes by the same port at its bank, or it is the
requester's own (R144, R145, R208). -/
def LineReq.ahead (r : LineReq) (t : Tile) (mt u : Nat) : Bool := t.competes (bankOf r.addr) r == some (portOf mt u) || r.core == u
/-- Memory as an access by a requester finds it: the requests ahead of it have been served (R145, R208). -/
def Mod.view (m : Mod) (u : Nat) : Mem :=
  m.tile.foldl (fun mem p => p.2.reqs.foldl (fun mem r =>
    if r.ahead p.2 (mtOf p.1) u && m.tenOk (mtOf p.1) r.ten then
      mwrite 0 mem r.addr (match r.upd with
        | some op => natLE 4 (updResult op (leNat (mread 0 mem r.addr 4)) (leNat r.bytes))
        | none => r.bytes)
    else mem) mem) m.mem
/-- A write at its memory: words named in part are read, corrected or fatal, before the write (R138). -/
def Mod.bankWrite (m : Mod) (a : Nat) (bs : List Byte) : Mod :=
  match (partWords a bs.length).find? (fun w => m.uncorrectable w 8) with
  | some w => m.readMark w 8
  | none => ((partWords a bs.length).foldl (fun m w => m.readMark w 8) m).wr a bs
/-- A request that reads: the line it asks for is read by the caller when it has been served. -/
def LineReq.reads (r : LineReq) : Bool := r.bytes.isEmpty && r.upd.isNone
/-- Serve one request: a tenancy's breach has no effect and aborts its command (R140); an update reads its word first (R149). -/
def Mod.serve (m : Mod) (mt : Nat) (r : LineReq) : Mod :=
  if r.reads then m
  else if m.tenOk mt r.ten then m.bankWrite r.addr (m.reqBytes r) else m.cmdFault r.ctx 0x0807 (r.addr + mtTile mt * 2 ^ 48)
/-- The banks of tiles on dies above DEEP serve until no waiting request that a test of tile number and request picks is left (R145). -/
def Mod.serveAll (m : Mod) (p : Nat → LineReq → Bool) : Mod := m.runBanks Mod.serve (fun d => !m.sleeps d) p
/-- Lines that a range of addresses touches. -/
def lineAddrs (a n : Nat) : List Nat := (List.range ((a + n + 63) / 64 - a / 64)).map (fun i => 64 * (a / 64 + i))
/-- A read of one scratchpad line by a requester's queue is a request at its bank like any other: it queues behind what waits in its port's
queue, competes, and moves the pointer; the line is as the bank finds it (R138, R144, R145, R147). It is served within the command that
issues it (log entry 19). -/
def Mod.readLine (m : Mod) (u q a : Nat) : List Byte × Mod :=
  let mt := (a - spBase) / 0x400000
  let i := mtTile mt
  let t := m.t i
  let r : LineReq := ⟨portOf mt u, m.ownOf u q mt, u, q, 0, 0, 64, a, [], none⟩
  if !t.reqs.any (fun x => bankOf x.addr == bankOf a) then (m.rd a 64, m.tput i { t with rr := t.pass (bankOf a) r })
  else
    let ph := m.slotPhase t
    let m1 := Mod.runBank Mod.serve mt (bankOf a) LineReq.reads (bankFuel (t.reqs.length + 1)) ph.1 (ph.2.tput i { t with reqs := t.reqs ++ [r] })
    (m1.rd a 64, m1)
/-- Memory as a read of lines finds it, each line as its bank served it, and the module after it. -/
def Mod.readLines (m : Mod) (u q : Nat) (lines : List Nat) : Mem × Mod :=
  let r := lines.foldl (fun (p : List (Nat × List Byte) × Mod) a => let x := p.2.readLine u q a; (p.1 ++ [(a, x.1)], x.2)) ([], m)
  ((r.1.filter (fun p => r.2.rd p.1 64 != p.2)).foldl (fun mem p => mwrite 0 mem p.1 p.2) r.2.mem, r.2)
/-- Apply one memory-side update at HBM or LPDDR-5X (R149); a breach of a tenancy has no effect and aborts its command (R140). -/
def Mod.applyUpd (m : Mod) (u : Upd) : Mod :=
  let go (m : Mod) : Mod := m.bankWrite u.addr (natLE 4 (updResult u.op (m.rdn u.addr 4) u.val))
  match targetOf u.addr with
  | .sp mt => if m.tenOk mt (tenBy u.core u.ctx) then go m else m.cmdFault u.ctx 0x0807 (u.addr + mtTile mt * 2 ^ 48)
  | .none => m.unmappedFault u.core u.addr
  | _ => go m
/-- The updates on their way that a test picks are applied, in order. -/
def Mod.applyAll (m : Mod) (p : Upd → Bool) : Mod :=
  (m.upd.filter p).foldl (fun m u => m.applyUpd u) { m with upd := m.upd.filter (fun u => !p u) }
/-- A requester's earlier requests on the one path to a target arrive before its next one (R210). -/
def Mod.pathAhead (m : Mod) (u a : Nat) : Mod := m.applyAll (fun x => x.core == u && targetOf x.addr == targetOf a)
/-- An access whose way leads over a die in DEEP raises it and is tried again when the die is awake (R21). -/
def Mod.park (m : Mod) (u a n : Nat) : Mod :=
  let m1 := (spanDies a n).foldl (fun m v => m.raisePath (unitOf u) v) ((m.touch (unitOf u) (targetOf a)).touch (unitOf u) (targetOf (a + n - 1)))
  { m1 with parked := if m1.parked.contains (u, a) then m1.parked else m1.parked ++ [(u, a)] }
/-- An access has gone through. -/
def Mod.unpark (m : Mod) (u a : Nat) : Mod := { m with parked := m.parked.filter (fun p => p != (u, a)) }
/-- Samples of a read's latency: a core's reads at its die, and every read of LPDDR-5X at the I/O die that serves it, of whichever requester
(Table 15.2, R398). -/
def Mod.readLatency (m : Mod) (u c : Nat) (tg : Target) : Mod :=
  let tile := if u < 1024 then some u else none
  let ctx := if c = noCtx then none else some c
  let m1 := if 1024 ≤ u then m else
    match tg with
    | .sp _ => m.latency 0x01 (tDie u) tile ctx
    | _ => m.latency (tg.chargeIx - 4) (tDie u) tile ctx
  match tg with
  | .lp x => m1.latency 0x03 (4 + x) tile ctx
  | _ => m1
/-- Memory tile of a range that is closed to a requester's tenancy (R140). -/
def Mod.closedTo (m : Mod) (u c a n : Nat) : Option Nat :=
  match targetOf a with
  | .sp mt => ((List.range ((a + n - 1 - spBase) / 0x400000 + 1 - mt)).map (fun i => mt + i)).find? (fun k => !m.tenOk k (tenBy u c))
  | _ => none
/-- Read by a queue of an engine, by an S-core or by a control engine: none where the access faults (R16, R140), meets an error that cannot
be corrected (R404), or waits for a die (R21). Each line of scratchpad takes its turn at its bank (R144, R145). -/
def Mod.fetchQ (m : Mod) (u q c a n : Nat) : Option (List Byte) × Mod :=
  if n = 0 then (some [], m)
  else if !mapped a n then (none, m.unmappedFault u a)
  else if !m.awake (unitOf u) a n then (none, m.park u a n)
  else
    match m.closedTo u c a n with
    | some k => (none, m.cmdFault c 0x0807 (max a (mtBase k) + mtTile k * 2 ^ 48))
    | none =>
      let tg := targetOf a
      if m.uncorrectable a n then (none, m.readMark a n)
      else
        let r := match tg with
          | .sp _ => m.readLines u q (lineAddrs a n)
          | _ => let m1 := m.pathAhead u a; (m1.mem, m1)
        let m1 := r.2.readMark a n
        if m1.mon.fltState ≠ 0 then (none, m1)
        else (some (mread 0 r.1 a n), (((m1.unpark u a).touch (unitOf u) tg).charge c tg.chargeIx n).readLatency u c tg)
/-- Read by a control engine, whose queue is 4. -/
def Mod.fetch (m : Mod) (u c a n : Nat) : Option (List Byte) × Mod := m.fetchQ u 4 c a n

/-- A write or update must wait: a die on its way is in DEEP, one that it only crosses among them, or an earlier one of the requester to the
same target waits (R21, R210). -/
def Mod.mustWait (m : Mod) (u a n : Nat) : Bool :=
  !m.awake (unitOf u) a n || m.far.any (fun r => r.core == u && targetOf r.addr == targetOf a)
/-- A write or update whose way is awake reaches its memory: the bank's queue at a scratchpad tile (R144, R218); HBM or LPDDR-5X, where an
update is on its way (R149). -/
def Mod.enter (m : Mod) (r : LineReq) : Mod :=
  match targetOf r.addr with
  | .sp mt => let t := m.t (mtTile mt); m.tput (mtTile mt) { t with reqs := t.reqs ++ [r] }
  | _ => match r.upd with
    | some op => { m with upd := m.upd ++ [⟨op, r.addr, leNat r.bytes, r.ctx, r.core, r.q⟩] }
    | none => (m.pathAhead r.core r.addr).bankWrite r.addr r.bytes
/-- A request sets out: its die wakes and its tile ungates; it waits while its way sleeps (R21). -/
def Mod.send (m : Mod) (u q seq c a : Nat) (bs : List Byte) (upd : Option Nat) : Mod :=
  let tg := targetOf a
  let m1 := (m.touch (unitOf u) tg).charge c tg.chargeIx bs.length
  let r : LineReq := match tg with
    | .sp mt => ⟨portOf mt u, m1.ownOf u q mt, u, q, seq, c, tenBy u c, a, bs, upd⟩
    | _ => ⟨2, 0, u, q, seq, c, tenBy u c, a, bs, upd⟩
  if m1.mustWait u a bs.length then { m1 with far := m1.far ++ [r] } else m1.enter r
/-- Write by a requester: lines for scratchpad wait at their tile, other targets take the bytes once their way is awake (R144, R211). -/
def Mod.issue (m : Mod) (u q seq c a : Nat) (bs : List Byte) : Mod :=
  if bs.isEmpty then m
  else if !mapped a bs.length then m.unmappedFault u a
  else
    match targetOf a with
    | .sp _ => (cutLines (bs.length + 1) a bs).foldl (fun m p => m.send u q seq c p.1 p.2 none) m
    | _ => m.send u q seq c a bs none
/-- Issue a memory-side update: it queues at its tile behind the requester's earlier requests, or is on its way (R149, R210, R218). -/
def Mod.update (m : Mod) (op a v c core q : Nat) : Mod :=
  if !mapped a 4 then m.unmappedFault core a else m.send core q 0 c a (natLE 4 v) (some op)
/-- Requests whose way is awake again go on, in order (R21). -/
def Mod.wakeFar (m : Mod) : Mod :=
  let go (r : LineReq) : Bool := m.awake (unitOf r.core) r.addr r.bytes.length
  (m.far.filter go).foldl Mod.enter { m with far := m.far.filter (fun r => !go r) }
/-- Every request of a requester that a test of tile, queue and context picks is complete at its target: false while one waits for a die
in DEEP. -/
def Mod.noneLeft (m : Mod) (p : Nat → Nat → Nat → Bool) : Bool :=
  m.tile.all (fun kv => kv.2.reqs.all (fun r => !p r.core r.q r.ctx)) && m.upd.all (fun u => !p u.core u.q u.ctx)
  && m.far.all (fun r => !p r.core r.q r.ctx)
/-- The requests picked become complete at module scope, but for those that wait for a die (R211, R214; log entry 13). -/
def Mod.drain (m : Mod) (p : Nat → Nat → Nat → Bool) : Mod :=
  (m.serveAll (fun _ r => p r.core r.q r.ctx)).applyAll (fun u => p u.core u.q u.ctx)
/-- Everything a core has written becomes complete at module scope, but for what waits for a die. -/
def Mod.drainCore (m : Mod) (core : Nat) : Mod := m.drain (fun u _ _ => u == core)
/-- No write or update of a core's queue waits anywhere. -/
def Mod.quietCore (m : Mod) (core q : Nat) : Bool := m.noneLeft (fun u k _ => u == core && k == q)

/-- The engine's earlier writes are complete at a scope (Table 8.8): a die fence takes the scratchpad and HBM of its own die only, and
only a domain fence the windows. -/
def Mod.quietAt (m : Mod) (tile q scope : Nat) : Bool :=
  let away (a : Nat) : Bool := scope == 2 && (targetOf a).die != some (tDie tile)
  (decide (scope < 2) || (m.tile.all (fun kv => kv.2.reqs.all (fun r => !(r.core == tile && r.q == q) || away r.addr))
    && m.upd.all (fun u => !(u.core == tile && u.q == q) || away u.addr)
    && m.far.all (fun r => !(r.core == tile && r.q == q) || away r.addr)))
  && (decide (scope < 4) || m.ers.txns.all (fun x => !(x.core == tile && x.q == q)))

/-! Semaphores (R131 to R133). -/

/-- Add a signed count, saturated once, with its sticky flag (R132). -/
def Tile.semAdd (t : Tile) (n : Nat) (d : Int) : Tile :=
  let v : Int := (tget 0 t.sem n : Nat) + d
  if v < 0 then { t with sem := tset t.sem n 0, satLo := t.satLo ||| 2 ^ n }
  else if 65535 < v then { t with sem := tset t.sem n 65535, satHi := t.satHi ||| 2 ^ n }
  else { t with sem := tset t.sem n v.toNat }
/-- The oldest blocked wait of a semaphore, if its count is there (R133). -/
def Tile.semHead (t : Tile) (n : Nat) : Option SemWait :=
  match t.waits.find? (fun w => w.sem == n) with
  | some w => if w.cnt ≤ tget 0 t.sem n then some w else none
  | none => none
/-- A wait: granted at once when nothing older waits and the count is there, else queued (R131, R133). -/
def Tile.semWait (t : Tile) (eng n c : Nat) : Bool × Tile :=
  if c = 0 then (true, t)
  else if (t.waits.find? (fun w => w.sem == n)).isNone && decide (c ≤ tget 0 t.sem n) then
    (true, { t with sem := tset t.sem n (tget 0 t.sem n - c) })
  else (false, { t with waits := t.waits ++ [⟨eng, n, c⟩] })

/-- An outcome of every meaning: the next state. -/
def ok (s : State) : Host.Outcome State Fault Refusal := .next s

end Sys2Proof.Machine
end

