-- ==== Sys2Proof/Machine/Channels.lean ====
section
/-! DEFINITION. Message channels (R234 to R243) and the S-core operations that they and the instructions share (R119, R125). -/

namespace Sys2Proof.Machine

/-- Write a general register; g0 ignores writes (R118). -/
def SCore.setG (c : SCore) (r : Nat) (v : Word) : SCore := if r = 0 then c else { c with g := tset c.g r v }
/-- Read a general register; g0 reads zero (R118). -/
def SCore.getG (c : SCore) (r : Nat) : Word := if r = 0 then 0 else tget 0 c.g r

/-- Reserved channels of a command (Table 10.8). -/
def nChan (cr : Nat) : Nat := fld cr 112 98
/-- Key of a channel. -/
def chKey (c h : Nat) : Nat := c * 16384 + h
/-- Channels reserved for the command of a context. -/
def Mod.nChanOf (m : Mod) (c : Nat) : Nat :=
  match m.run? c with
  | some r => nChan r.cr
  | none => 0

/-- A blocked channel, fence or ICP instruction returns a status in rd, and the S-core goes on (R241, R243). -/
def Mod.scReturn (m : Mod) (n rd v : Nat) : Mod :=
  let c := m.s n
  m.sput n ({ c with block := .none, pc := c.pc + 4 }.setG rd (BitVec.ofNat 32 v))
/-- A CHSEND of S-core n has returned: its latency is sampled (Table 15.2). -/
def Mod.sendLatency (m : Mod) (n : Nat) : Mod := m.latency 0x05 (n / 16) (some (scTile n)) (some (m.s n).ctx)
/-- A send of S-core n returns. -/
def Mod.sendReturn (m : Mod) (n v : Nat) : Mod :=
  match (m.s n).block with
  | .chsend rd _ => (m.scReturn n rd v).sendLatency n
  | _ => m

/-- Where the next record of n bytes goes: its offset and the offset of a skip marker (R238). -/
def Chan.place? (c : Chan) (n : Nat) : Option (Nat × Option Nat) :=
  if c.u = 0 ∨ c.rd < c.wr then
    if n ≤ c.size - c.wr then some (c.wr, none)
    else if n ≤ c.rd then some (0, some c.wr)
    else none
  else if n ≤ c.rd - c.wr then some (c.wr, none)
  else none
/-- Bytes a message occupies (R237). -/
def recBytes (l : Nat) : Nat := 64 * ceilDiv l 64
/-- Place a record, or none when it must wait (R238, R239). -/
def Chan.put? (c : Chan) (w : WaitSend) : Option Chan :=
  let n := recBytes w.data.length
  match c.place? n with
  | some (pos, mkr) =>
    let skip := match mkr with | some p => c.size - p | none => 0
    some { c with wr := (pos + n) % c.size, u := c.u + n + skip,
                  placed := c.placed ++ [{ pos := pos, n := n, sender := w.sender, data := w.data, len := w.data.length, marker := mkr }] }
  | none => none
/-- Place waiting sends in the order in which they began to wait (R240). -/
def Chan.drainWaiting : Nat → Chan → Chan
  | 0, c => c
  | f + 1, c =>
    match c.waiting with
    | [] => c
    | w :: ws => match ({ c with waiting := ws } : Chan).put? w with
      | some c1 => c1.drainWaiting f
      | none => c
/-- A send or a message arrives: placed when nothing older waits and it fits, else it waits (R240, R242). -/
def Chan.arrive (c : Chan) (w : WaitSend) : Chan :=
  if c.waiting.isEmpty then
    match c.put? w with
    | some c1 => c1
    | none => { c with waiting := [w] }
  else { c with waiting := c.waiting ++ [w] }

def Mod.chput (m : Mod) (k : Nat) (c : Chan) : Mod := { m with chan := tset m.chan k c }
/-- A dropped message is counted (R242). -/
def Mod.dropMsg (m : Mod) (core : Nat) : Mod := m.sample 0x10 (unitOf core) (some core) none 1
/-- Close a channel: unread messages go, waiting and unadded senders return CLOSED (Table 10.1, R239). -/
def Mod.closeChan (m : Mod) (k : Nat) : Mod :=
  match tget? m.chan k with
  | none => m
  | some c =>
    let who := (c.placed.map (·.sender)) ++ (c.waiting.map (·.sender))
    let drops := (c.waiting.filter (fun w => w.sender.isNone)).length
    let m1 := m.chput k { c with closed := true, placed := [], waiting := [], u := 0, a := 0, rd := 0, wr := 0 }
    let m2 := who.foldl (fun m s => match s with | some n => m.sendReturn n 0x0702 | none => m) m1
    (List.range drops).foldl (fun m _ => m.dropMsg (scTile c.reader)) m2
/-- Close every channel that an S-core reads (R125, R130). -/
def Mod.closeReads (m : Mod) (n : Nat) : Mod :=
  (m.chan.filter (fun p => p.2.reader == n && !p.2.closed && p.1 / 16384 == (m.s n).ctx)).foldl (fun m p => m.closeChan p.1) m

/-- A program fault: the S-core stops before any effect, its readings close, the safelight is told (R125). -/
def Mod.progFault (m : Mod) (n code addr : Nat) : Mod :=
  let c := m.s n
  let m1 := m.closeReads n
  let m2 := m1.sput n { c with running := false, block := .none, loads := [], fault := some (code, m.time) }
  let m3 := if m2.icp.holder = some n then { m2 with icp := { m2.icp with breakOf := some n } } else m2
  m3.cmdFault c.ctx code (addr % 2 ^ 18 + n * 2 ^ 48)
/-- Reasons of Table 10.10. -/
def fIllegal : Nat := 0x0803
def fAddr : Nat := 0x0804
def fAlign : Nat := 0x0805
def fArea : Nat := 0x0806

/-- Fault of a fetch from outside the program area: ADDR_FAULT outside the map of Table 5.7, else AREA_FAULT (R119). -/
def fetchFault (pc : Nat) : Nat := if pc < 0x40000 ∨ 0x40000000 ≤ pc ∧ pc < 0xC0000000 then fArea else fAddr
/-- The S-core goes on at an address; a fetch from outside the program area faults (R119, log entry 10). -/
def Mod.goTo (m : Mod) (n : Nat) (c : SCore) (pc : Nat) : Mod :=
  let m1 := m.sput n { c with pc := pc }
  if pc < 0x30000 then m1 else m1.progFault n (fetchFault pc) pc
/-- Next instruction. -/
def Mod.goNext (m : Mod) (n : Nat) (c : SCore) : Mod := m.goTo n c (c.pc + 4)
/-- Write rd and go on. -/
def Mod.wrRd (m : Mod) (n rd : Nat) (v : Word) : Mod := m.goNext n ((m.s n).setG rd v)

/-- The instruction word at pc (R123). -/
def Mod.scWord (m : Mod) (n : Nat) : Nat := leNat (mread 0 (m.t (scTile n)).prog (m.s n).pc 4)
/-- Registers an instruction names, by its format (Table 5.9). -/
def namesOf (w : Nat) : List Nat :=
  let op := fld w 31 26
  let rs := if op = 0x1A then [31] else if op = 0 ∨ (0x20 ≤ op ∧ op ≤ 0x23) ∨ (0x27 ≤ op ∧ op ≤ 0x30) then
      [fld w 25 21, fld w 20 16, fld w 15 11] else [fld w 25 21, fld w 20 16]
  rs.filter (fun r => r != 0)
/-- S-core n is about to execute a word of opcode op (and function fn of opcode 0): it runs, is not blocked, and no register the
word names awaits an aperture load (R120, R124). -/
def Mod.scReady (m : Mod) (n op : Nat) (fn : Option Nat) : Bool :=
  let c := m.s n
  let w := m.scWord n
  decide (n < 64) && c.running && c.block == .none && fld w 31 26 == op
    && (match fn with | some f => fld w 10 0 == f | none => true)
    && (namesOf w).all (fun r => c.loads.all (fun l => l.rd != r))
/-- Run one instruction of opcode op; a fetch from outside the program area faults (R119). -/
def Mod.scRun (m : Mod) (n op : Nat) (fn : Option Nat) (f : Nat → SCore → Mod) : Mod :=
  if (m.s n).running && (m.s n).block == .none && decide (0x30000 ≤ (m.s n).pc) then m.progFault n (fetchFault (m.s n).pc) (m.s n).pc
  else if m.scReady n op fn then f (m.scWord n) (m.s n) else m

/-- Fields of a word. -/
def wRd (w : Nat) : Nat := fld w 25 21
def wRa (w : Nat) : Nat := fld w 20 16
def wRb (w : Nat) : Nat := fld w 15 11
def wImm (w : Nat) : Nat := fld w 15 0
/-- Sign-extended 16-bit immediate (R123). -/
def wSimm (w : Nat) : Word := (BitVec.ofNat 16 (wImm w)).signExtend 32

/-- Complete the control engine's stores of an S-core at module scope, but for those that wait for a die (R214). -/
def Mod.fenceSc (m : Mod) (n : Nat) : Mod := m.drain (fun u q _ => u == scTile n && q == 4)

/-- A record of the data area: its bytes, or the program fault of R437. -/
def Mod.dataRec (m : Mod) (n a len : Nat) : Except Nat (List Byte) :=
  if a < 0x30000 ∨ 0x40000 < a + len then .error fAddr
  else if a % 4 ≠ 0 then .error fAlign
  else .ok (mread 0 (m.s n).data (a - 0x30000) len)

/-- CHOPEN (R236). -/
def Mod.chopen (m : Mod) (n : Nat) (w : Nat) (c : SCore) : Mod :=
  match m.dataRec n (c.getG (wRa w)).toNat 16 with
  | .error f => m.progFault n f c.pc
  | .ok bs =>
    let x := leNat bs
    let h := fld x 13 0
    let ring := fld x 53 32
    let lg := fld x 58 54
    let st :=
      if m.nChanOf c.ctx ≤ h then 0x0706
      else if fld x 15 14 ≠ 0 ∨ fld x 63 59 ≠ 0 ∨ fld x 127 96 ≠ 0 ∨ lg < 12 ∨ 21 < lg ∨ ring % 4096 ≠ 0
        ∨ 0x400000 < ring + 2 ^ lg + 2 ^ lg / 16 then 0x0708
      else if (tget? m.chan (chKey c.ctx h)).isSome then 0x0707
      else 0
    let m1 := if st = 0 then
        m.chput (chKey c.ctx h) { reader := n, grant := fld x 31 16, ring := tileBase (home0 (scTile n)) + ring, size := 2 ^ lg,
                                  timeout := if fld x 95 64 = 0 then 25000 else fld x 95 64 }
      else m
    m1.wrRd n (wRd w) (BitVec.ofNat 32 st)
/-- CHOPEN (R236): status in rd; the channel opens with the caller as reader. -/
def execScChopen (n : Nat) (s : State) : Host.Outcome State Fault Refusal :=
  .next (s.on fun m => m.scRun n 0x28 none (fun w c => m.chopen n w c))

/-- An S-core is granted to send (Table 10.2). -/
def Chan.granted (ch : Chan) (n : Nat) : Bool := ch.grant == 0xFFFF || ch.grant == scTile n
/-- CHSEND (R239). -/
def Mod.chsend (m : Mod) (n : Nat) (w : Nat) (c : SCore) : Mod :=
  match m.dataRec n (c.getG (wRb w)).toNat 16 with
  | .error f => m.progFault n f c.pc
  | .ok bs =>
    let x := leNat bs
    let h := (c.getG (wRa w)).toNat
    let len := fld x 80 64
    let k := chKey c.ctx h
    let fail (st : Nat) : Mod := (m.wrRd n (wRd w) (BitVec.ofNat 32 st)).sendLatency n
    if m.nChanOf c.ctx ≤ h then fail 0x0706
    else if len < 64 ∨ 65536 < len ∨ fld x 63 48 ≠ 0 ∨ fld x 127 81 ≠ 0 then fail 0x0708
    else match tget? m.chan k with
      | none => fail 0x0701
      | some ch =>
        if !ch.granted n then fail 0x0705
        else if ch.closed then fail 0x0702
        else if ch.size < recBytes len then fail 0x0703
        else
          let m1 := m.fenceSc n
          if !m1.quietCore (scTile n) 4 then m1
          else match m1.fetch (scTile n) c.ctx (fld x 47 0) len with
          | (some d, m2) =>
            let m3 := m2.sput n { m2.s n with block := .chsend (wRd w) h }
            m3.chput k (ch.arrive ⟨some n, d⟩)
          | (none, m2) => m2
/-- CHSEND (R239, R240): a status at once, or the send blocks until its record is added to A. -/
def execScChsend (n : Nat) (s : State) : Host.Outcome State Fault Refusal :=
  .next (s.on fun m => m.scRun n 0x29 none (fun w c => m.chsend n w c))

/-- The handle is open with S-core n as its reader (R241). -/
def Mod.reads? (m : Mod) (n c h : Nat) : Option Chan :=
  match tget? m.chan (chKey c h) with
  | some ch => if ch.reader = n ∧ !ch.closed then some ch else none
  | none => none
/-- CHWAIT (R241). -/
def Mod.chwait (m : Mod) (n : Nat) (w : Nat) (c : SCore) : Mod :=
  let h := (c.getG (wRa w)).toNat
  let lim := (c.getG (wRb w)).toNat
  if m.nChanOf c.ctx ≤ h then m.wrRd n (wRd w) 0x0706
  else match m.reads? n c.ctx h with
    | none => m.progFault n fIllegal c.pc
    | some ch =>
      if 0 < ch.a then m.wrRd n (wRd w) 1
      else if lim = 0 then m.wrRd n (wRd w) 0
      else m.sput n { c with block := .chwait (wRd w) h lim }
/-- CHWAIT: 1 when the ring holds a readable message, else the S-core blocks for rb cycles (R241). -/
def execScChwait (n : Nat) (s : State) : Host.Outcome State Fault Refusal :=
  .next (s.on fun m => m.scRun n 0x2A none (fun w c => m.chwait n w c))
/-- CHWAIT_TIMEOUT: the wait of rb cycles has passed; a blocked CHWAIT returns 0. -/
def execChwaitTimeout (n : Nat) (s : State) : Host.Outcome State Fault Refusal :=
  .next (s.on fun m => match (m.s n).block with
    | .chwait rd _ _ => m.scReturn n rd 0
    | _ => m)

/-- CHACK (R241). -/
def Mod.chack (m : Mod) (n : Nat) (w : Nat) (c : SCore) : Mod :=
  let h := (c.getG (wRa w)).toNat
  let b := (c.getG (wRb w)).toNat
  if m.nChanOf c.ctx ≤ h then m.wrRd n (wRd w) 0x0706
  else match m.reads? n c.ctx h with
    | none => m.progFault n fIllegal c.pc
    | some ch =>
      if b % 64 ≠ 0 ∨ ch.a < b then m.progFault n fIllegal c.pc
      else
        let ch1 := { ch with rd := (ch.rd + b) % ch.size, u := ch.u - b, a := ch.a - b }
        (m.chput (chKey c.ctx h) (ch1.drainWaiting (ch1.waiting.length))).wrRd n (wRd w) 0
/-- CHACK: the read pointer advances and freed space is offered to waiting sends (R241). -/
def execScChack (n : Nat) (s : State) : Host.Outcome State Fault Refusal :=
  .next (s.on fun m => m.scRun n 0x2B none (fun w c => m.chack n w c))

/-- CHREL by Table 10.1. -/
def Mod.chrel (m : Mod) (n : Nat) (w : Nat) (c : SCore) : Mod :=
  let h := (c.getG (wRa w)).toNat
  let k := chKey c.ctx h
  let ret (m : Mod) (st : Nat) : Mod := m.wrRd n (wRd w) (BitVec.ofNat 32 st)
  if m.nChanOf c.ctx ≤ h then ret m 0x0706
  else match tget? m.chan k with
    | none => ret m 0x0701
    | some ch =>
      if !ch.closed then
        if ch.reader = n then ret (m.closeChan k) 0
        else if ch.granted n then ret m 0
        else ret m 0x0705
      else if ch.granted n then
        (if ch.grant = 0xFFFF then ret m 0x0702 else ret { m with chan := tdel m.chan k } 0)
      else ret m 0x0705
/-- CHREL: close as reader or release as sender (R235). -/
def execScChrel (n : Nat) (s : State) : Host.Outcome State Fault Refusal :=
  .next (s.on fun m => m.scRun n 0x2C none (fun w c => m.chrel n w c))

/-- Bytes a placed record writes into the ring, as address and bytes: message, length word, skip marker (R237). -/
def Chan.recWrites (ch : Chan) (p : Placed) : List (Nat × List Byte) :=
  [(ch.ring + p.pos, p.data ++ List.replicate (p.n - p.len) 0), (ch.ring + ch.size + p.pos / 16, natLE 4 p.len)] ++
  (match p.marker with
   | some q => [(ch.ring + q, natLE 4 0xFFFFFFFF ++ natLE 4 (ch.size - q) ++ List.replicate 56 0), (ch.ring + ch.size + q / 16, natLE 4 0xFFFFFFFF)]
   | none => [])
/-- The reader's channel engine, queue 5, writes a record through the core's port, behind the stores that entered it before, and the
record is complete at module scope (R210, R236, R239). -/
def Mod.writeRec (m : Mod) (c : Nat) (ch : Chan) (p : Placed) : Mod :=
  ((ch.recWrites p).foldl (fun m w => m.issue (scTile ch.reader) 5 0 c w.1 w.2) m).drain (fun u q _ => u == scTile ch.reader && q == 5)
/-- Bytes a record adds to A. -/
def Placed.span (ch : Chan) (p : Placed) : Nat := p.n + (match p.marker with | some q => ch.size - q | none => 0)
/-- Leading records that are complete are added to A in placement order; their senders return 0 (R239). -/
def Chan.addVisible : Nat → Chan → Chan × List Nat
  | 0, c => (c, [])
  | f + 1, c =>
    match c.placed with
    | [] => (c, [])
    | p :: ps =>
      if p.visible then
        let r := ({ c with placed := ps, a := c.a + p.span c } : Chan).addVisible f
        (r.1, p.sender.toList ++ r.2)
      else (c, [])
/-- A record is complete at module scope (R239, R241). -/
def Mod.recVisible (m : Mod) (c h i : Nat) : Mod :=
  let k := chKey c h
  match tget? m.chan k with
  | none => m
  | some ch =>
    match ch.placed[i]? with
    | none => m
    | some p =>
      if p.visible then m
      else
        let m1 := m.writeRec c ch p
        let ch1 : Chan := { ch with placed := lset ch.placed i { p with visible := true } }
        let r := ch1.addVisible ch1.placed.length
        let m2 := r.2.foldl (fun m n => m.sendReturn n 0) (m1.chput k r.1)
        match (m2.s ch.reader).block with
        | .chwait rd h' _ => if h' = h ∧ (m2.s ch.reader).ctx = c ∧ 0 < r.1.a then m2.scReturn ch.reader rd 1 else m2
        | _ => m2
/-- CHANNEL_RECORD_VISIBLE: record idx of the channel is complete and added in order; CHWAIT wakes (R239, R241). -/
def execChannelRecordVisible (ctx h idx : Nat) (s : State) : Host.Outcome State Fault Refusal :=
  .next (s.on fun m => m.recVisible ctx h idx)

/-- FULL_TIMEOUT: a send not yet placed ends and nothing of it is delivered (R240). -/
def execFullTimeout (n : Nat) (s : State) : Host.Outcome State Fault Refusal :=
  .next (s.on fun m => match (m.s n).block with
    | .chsend rd h =>
      let k := chKey (m.s n).ctx h
      match tget? m.chan k with
      | some ch =>
        if ch.waiting.any (fun w => w.sender == some n) then
          let ch1 := { ch with waiting := ch.waiting.filter (fun w => w.sender != some n) }
          ((m.chput k (ch1.drainWaiting ch1.waiting.length)).scReturn n rd 0x0704).sendLatency n
        else m
      | none => m
    | _ => m)

/-- COMPLETION_MESSAGE_ARRIVE: message idx is placed, waits, or is dropped and counted (R242). Its source's writes are complete at module
scope first; while one waits for a die, so does the message (R214). -/
def Mod.msgArrive (m : Mod) (i : Nat) : Mod :=
  match m.msgs[i]? with
  | none => m
  | some g =>
    let m0 := m.drainCore g.core
    let m1 := { m0 with msgs := ldel m0.msgs i }
    if !m0.noneLeft (fun u _ _ => u == g.core) then m0
    else if (m1.run? g.ctx).isNone then m1
    else if m1.nChanOf g.ctx ≤ g.chan then m1.dropMsg g.core
    else match tget? m1.chan (chKey g.ctx g.chan) with
      | none => m1.dropMsg g.core
      | some ch => if ch.closed then m1.dropMsg g.core else m1.chput (chKey g.ctx g.chan) (ch.arrive ⟨none, g.data⟩)
/-- COMPLETION_MESSAGE_ARRIVE (R242). -/
def execCompletionMessageArrive (idx : Nat) (s : State) : Host.Outcome State Fault Refusal :=
  .next (s.on fun m => m.msgArrive idx)

end Sys2Proof.Machine
end

