-- ==== Sys2Proof/Machine/Operands.lean ====
section
/-! DEFINITION. Operand forms of descriptors: headers, endpoints, patterns, and the checks a descriptor and the records it
names pass at the start and at decode (Tables 4.9, 5.5, 6.11, 8.10). -/

namespace Sys2Proof.Machine

/-- The first code whose condition holds; 0 when none does (R225, R233; log entry 12 on the order within one object). -/
def firstErr (l : List (Bool × Nat)) : Nat := ((l.find? (fun p => p.1)).map (fun p => p.2)).getD 0
/-- The first non-zero code. -/
def firstCode (l : List Nat) : Nat := (l.find? (fun c => c != 0)).getD 0

/-! Header (Table 8.1). -/
def hWaitSem (x : Nat) : Nat := fld x 12 8
def hWaitCnt (x : Nat) : Nat := fld x 18 13
def hSigSem (x : Nat) : Nat := fld x 23 19
def hSigCnt (x : Nat) : Nat := fld x 29 24
def hDep (x : Nat) : Bool := bitAt x 30

/-! Slides as stored (R175). -/

/-- Little-endian value of n bytes at byte o of slide e. -/
def Tile.sl (t : Tile) (e o n : Nat) : Nat := leNat (mread 0 t.frames (4096 * e + o) n)
/-- State of a slide: 0 INVALID, 1 ACTIVE, 2 INACTIVE (R160). -/
def Tile.slState (t : Tile) (e : Nat) : Nat := tget 0 t.slide e
/-- Endpoint binding word of slide e. -/
def Tile.ep (t : Tile) (e k : Nat) : Nat := t.sl e (192 + 8 * k) 8
/-- Slide e binds endpoint k in the wanted direction (Table 7.8). -/
def Tile.binds (t : Tile) (e k : Nat) (source : Bool) : Bool := bitAt (t.ep e k) 14 && bitAt (t.ep e k) 13 == source

/-- What a check reads: memory, and the tile and queue the descriptor stands in. -/
structure Chk where
  core : Nat
  q : Nat
  rd : Nat → Nat → Nat
  t : Tile

/-- A check over memory as a core sees it. -/
def Mod.chk (m : Mod) (core q : Nat) : Chk :=
  let mem := m.view core
  { core := core, q := q, rd := fun a n => leNat (mread 0 mem a n), t := m.t core }
/-- The range lies in scratchpad or HBM of die d. -/
def onDie (d a n : Nat) : Bool := inSpOf d a n || (inHbm a n && targetOf a == .hbm d && targetOf (a + n - 1) == .hbm d)

/-! Patterns (R150 to R155). -/

/-- Start addresses of the runs of a strided pattern, in the order of R151. -/
def stridedRuns (x : Nat) : List Int :=
  let s1 := sgn 32 (fld x 163 132)
  let s2 := sgn 32 (fld x 195 164)
  let s3 := sgn 32 (fld x 227 196)
  (List.range (fld x 131 116)).flatMap (fun (i3 : Nat) => (List.range (fld x 115 100)).flatMap (fun (i2 : Nat) =>
    (List.range (fld x 99 84)).map (fun (i1 : Nat) => (fld x 55 8 : Int) + i1 * s1 + i2 * s2 + i3 * s3)))
/-- Bytes contiguous in dimension 0. -/
def pRun (x : Nat) : Nat := fld x 83 64
/-- Element size, rows and columns of a transposed pattern (R152). -/
def trSize (x : Nat) : Nat := if fld x 3 0 = 2 then 2 else 1
def trR (x : Nat) : Nat := (if fld x 3 0 = 2 then 64 else 128) * fld x 111 104
def trC (x : Nat) : Nat := (if fld x 3 0 = 2 then 64 else 128) * fld x 127 112
def trPitch (x : Nat) : Nat := fld x 83 64
def trOPitch (x : Nat) : Nat := fld x 103 84
/-- Bytes of the output range (R152). -/
def trSpan (x : Nat) : Nat := (trC x - 1) * trOPitch x + trR x * trSize x
/-- Byte count of a pattern (R150). -/
def patBytes (x : Nat) : Nat :=
  match fld x 3 0 with
  | 1 => pRun x * fld x 99 84 * fld x 115 100 * fld x 131 116
  | 2 | 3 => trR x * trC x * trSize x
  | 4 => fld x 207 192 * fld x 159 144 * 64
  | _ => 0
/-- Codes of Table 6.11 for a record named as a source or a destination that moves n bytes. Whether the record lies on the engine's die is
tested first, with PATTERN_RANGE, for nothing else of it can be read before (log entries 12 and 84). -/
def patErr (c : Chk) (a : Nat) (dst : Bool) (n : Nat) : Nat :=
  if !inSpOf (tDie c.core) a 64 then 0x0603
  else
    let x := c.rd a 64
    let f := fld x 3 0
    let base := fld x 55 8
    let tr := decide (f = 2 ∨ f = 3)
    firstErr [
      (decide (f = 0 ∨ 5 ≤ f) || (dst && f != 1), 0x0601),
      (a % 64 != 0 || (tr && (base % 64 != 0 || trPitch x % 64 != 0 || trOPitch x % 64 != 0))
        || (f == 4 && (base % 64 != 0 || fld x 143 112 % 64 != 0 || fld x 111 64 % 4 != 0)), 0x0602),
      ((f == 1 && (pRun x == 0 || fld x 99 84 == 0 || fld x 115 100 == 0 || fld x 131 116 == 0)), 0x0603),
      ((tr && (trR x == 0 || trC x == 0 || decide (trPitch x < 128) || decide (trOPitch x < trR x * trSize x)
        || !inOneTile base ((trR x - 1) * trPitch x + trC x * trSize x))), 0x0603),
      ((f == 4 && (fld x 207 192 == 0 || fld x 191 160 == 0 || fld x 159 144 == 0 || decide (1024 < fld x 159 144)
        || decide (fld x 143 112 < fld x 159 144 * 64) || !inOneTile (fld x 111 64) (4 * fld x 207 192))), 0x0603),
      ((f == 1 && (stridedRuns x).any (fun r => decide (r < 0) || !mapped r.toNat (pRun x))), 0x0603),
      (patBytes x != n, 0x0604)]

/-! Transfer descriptors (Table 8.3). -/
def tSrc (x : Nat) : Nat := fld x 79 32
def tDst (x : Nat) : Nat := fld x 127 80
def tSm (x : Nat) : Nat := fld x 131 128
def tDm (x : Nat) : Nat := fld x 135 132
def tLen (x : Nat) : Nat := fld x 175 136
def tSf (x : Nat) : Nat := fld x 179 176
def tDf (x : Nat) : Nat := fld x 183 180
def tConv (x : Nat) : Bool := bitAt x 237
def tScale (x : Nat) : Int := sgn 8 (fld x 197 190)
/-- A conversion that records a maximum word (R46). -/
def narrows (src dst : Nat) (x : Int) : Bool := !(widens src dst && x == 0)
/-- Bytes the destination receives (R199). -/
def tRecv (x : Nat) : Nat :=
  if tConv x ∧ tSf x ≤ 5 ∧ tDf x ≤ 5 then tLen x / fmtSize (tSf x) * fmtSize (tDf x) else tLen x
/-- The source is a transposed pattern whose output has gaps; its record. -/
def tGaps (c : Chk) (x : Nat) : Bool :=
  tSm x == 1 && (let p := c.rd (tSrc x) 64; decide (fld p 3 0 = 2 ∨ fld p 3 0 = 3) && decide (patBytes p < trSpan p))
/-- Bytes from the destination's first to its last byte at a contiguous destination (R152). -/
def tSpan (c : Chk) (x : Nat) : Nat := if tGaps c x then trSpan (c.rd (tSrc x) 64) else tRecv x
/-- Codes of Table 8.10 for a transfer descriptor, then for the conversion record and the patterns it names (R225). -/
def transferErr (c : Chk) (x : Nat) : Nat :=
  let sm := tSm x
  let dm := tDm x
  let n := tLen x
  let xe := tConv x && bitAt x 236
  let xoff := fld x 235 214
  let xr := c.rd (homeAddr c.core 0 xoff) 64
  let narrow := narrows (tSf x) (tDf x) (tScale x)
  let anyIn (l : List Nat) : Bool := l.contains sm || l.contains dm
  let epOk (k : Nat) (src : Bool) : Bool := (List.range 8).any (fun e => c.t.slState e == 1 && c.t.binds e k src)
  firstCode [
    firstErr [
      (bitAt x 31 || fld x 255 238 != 0 || (sm == 2 && tSrc x / 8 != 0) || (dm == 2 && tDst x / 8 != 0), 0x0302),
      (decide (4 < sm) || decide (4 < dm) || ((sm == 3 || sm == 4) && (dm == 3 || dm == 4)) || (sm == 2 && dm == 2)
        || (sm == 3 && bitAt (tSrc x) 25), 0x0303),
      (n == 0 || (sm == 0 && !mapped (tSrc x) n) || (dm == 0 && !mapped (tDst x) (tSpan c x))
        || (sm == 4 && decide (2 ^ 48 < tSrc x + n)) || (dm == 4 && decide (2 ^ 48 < tDst x + tSpan c x)), 0x0304),
      ((xe && xoff % 64 != 0) || ((sm == 3 || dm == 3) && n % 32 != 0), 0x0305),
      (tConv x && (c.q == 0 || decide (5 < tSf x) || decide (5 < tDf x) || n % fmtSize (tSf x) != 0 || decide (5 < fld x 186 184)
        || ((narrow || fld x 186 184 == 5) && !xe) || anyIn [2, 3, 4] || (tGaps c x && dm == 0)), 0x0306),
      ((sm == 2 && !(c.q == 0 && epOk (tSrc x % 8) false)) || (dm == 2 && !(c.q == 3 && epOk (tDst x % 8) true)), 0x0108)],
    if xe then firstErr [(fld xr 63 48 != 0 || fld xr 511 112 != 0, 0x0302), (fld xr 47 0 % 4 != 0, 0x0305)] else 0,
    if sm = 1 then patErr c (tSrc x) false n else 0,
    if dm = 1 then patErr c (tDst x) true (tRecv x) else 0]

/-! Matrix and drain descriptors (Tables 4.3 to 4.5, 4.7). -/
def mA (x : Nat) : Nat := fld x 35 32
def mB (x : Nat) : Nat := fld x 39 36
def mFirst (x : Nat) : Bool := bitAt x 40
def mLast (x : Nat) : Bool := bitAt x 41
def mHold (x : Nat) : Bool := bitAt x 42
def mRows (x : Nat) : Nat := fld x 50 43 + 1
def mCols (x : Nat) : Nat := fld x 56 51 + 1
def mK (x : Nat) : Nat := fld x 212 185
/-- Codes of R93 within one matrix descriptor. For A_FMT or B_FMT of 6 to 8 the spec names no code: DESIGN CHOICE, FORMAT as for the codes
from 9 on, and before OPERAND_ALIGN, whose pitches need the format (log entry 101). -/
def matrixErr (x : Nat) : Nat :=
  let sa := fmtSize (mA x)
  let sb := fmtSize (mB x)
  let ap := fld x 120 101
  let bp := fld x 184 165
  let past (o p w : Nat) : Bool := decide (0x400000 < o + (mK x - 1) * p + w)
  firstErr [
    (mK x == 0 || (!mLast x && mK x % 256 != 0), 0x0401),
    (decide (5 < mA x) || decide (5 < mB x), 0x0406),
    (fld x 78 57 % 64 != 0 || fld x 100 79 % 64 != 0 || fld x 142 121 % 64 != 0 || fld x 164 143 % 64 != 0
      || ap % 64 != 0 || decide (ap < 128 * sa) || bp % 64 != 0 || decide (bp < 32 * sb), 0x0402),
    (past (fld x 78 57) ap (128 * sa) || past (fld x 100 79) ap (128 * sa) || past (fld x 142 121) bp (32 * sb)
      || past (fld x 164 143) bp (32 * sb), 0x0403)]

/-- Whether a stage uses an operand (R100). -/
def usesY (op : Nat) : Bool := [1, 2, 3, 4, 5, 6, 0xA, 0xB].contains op
/-- Stage word s of a chain record. -/
def stageOf (ch s : Nat) : Nat := fld ch (32 * s + 31) (32 * s)
/-- Format of source 1, 2 or 3 of a chain record. -/
def srcFmt (ch s : Nat) : Nat := if s = 1 then fld ch 435 432 else if s = 2 then fld ch 491 488 else fld ch 547 544
/-- The CVT stage of a chain, if any. -/
def cvtOf (ch : Nat) : Option Nat := ((List.range 8).map (stageOf ch)).find? (fun w => fld w 5 0 == 0x10)
/-- Codes of R100 and R101 for a chain record in a chain format. -/
def chainErr (ch fmt : Nat) : Nat :=
  let st := (List.range 8).map (stageOf ch)
  let ops := st.map (fun w => fld w 5 0)
  let users := st.filter (fun w => usesY (fld w 5 0))
  let after := (ops.dropWhile (fun o => o != 0x10)).drop 1
  firstErr [
    (ops.any (fun o => !(decide (o ≤ 0xB) || o == 0x10)), 0x040C),
    (after.any (fun o => o != 0), 0x040D),
    (decide (1 < (users.filter (fun w => fld w 7 6 == 3)).length), 0x040E),
    (users.any (fun w => fld w 7 6 != 0 && !widens (srcFmt ch (fld w 7 6)) fmt) || !(fmt == 3 || fmt == 0), 0x040F)]

def dFmt (x : Nat) : Nat := fld x 35 32
def dExport (x : Nat) : Bool := bitAt x 36
def dPitch (x : Nat) : Nat := fld x 146 115
def dEbase (x : Nat) : Nat := fld x 114 67
/-- Format in which a drain stores its outputs (R101); its size (R95). -/
def dStored (x xr ch : Nat) : Nat :=
  if !dExport x && bitAt xr 312 then (match cvtOf ch with | some w => fld w 13 10 | none => dFmt x) else dFmt x
/-- Codes of Table 4.9 within one drain descriptor, then in the records it names (R225). For a CVT stage with a format code of 6 to 8 the
spec names no code: DESIGN CHOICE, FORMAT, and before MAXW_ALIGN (log entry 101). -/
def drainErr (c : Chk) (x : Nat) : Nat :=
  let ex := dExport x
  let xr := c.rd (homeAddr c.core 0 (fld x 236 215)) 64
  let cen := bitAt xr 312 && fld x 236 215 % 64 == 0
  let ca := fld xr 175 128
  let chOk := ca % 128 == 0 && onDie (tDie c.core) ca 128
  let ch := c.rd ca 128
  let stored := if chOk then dStored x xr ch else dFmt x
  let size := if ex then 32 else if 5 < stored then 1 else fmtSize stored
  let cvt := if cen && chOk then cvtOf ch else none
  let badCvt := match cvt with | some w => decide (5 < fld w 13 10) || decide (5 < fld w 16 14) | none => false
  let rep := fld xr 303 256
  let repN := fld xr 311 304
  firstCode [
    firstErr [
      (decide (8 < dFmt x) || decide (dFmt x ≤ 5) == ex || decide (5 < fld x 39 37), 0x0406),
      (ex && fld x 50 43 != 0, 0x0408),
      (dPitch x == 0, 0x0409),
      (fld x 194 147 % size != 0 || fld x 214 195 % size != 0 || fld x 236 215 % 64 != 0, 0x040A)],
    firstErr [
      (badCvt, 0x0406),
      (fld xr 47 0 % 4 != 0 || fld xr 111 64 % 16 != 0 || (cen && chOk && fld ch 607 560 % 4 != 0), 0x040B),
      (cen && !chOk, 0x040F)],
    if cen then chainErr ch (dFmt x) else 0,
    if repN = 0 then 0
    else firstErr [(rep % 32 != 0 || !mapped rep (32 * repN), 0x0203)]]
/-- The four codes that compare a drain descriptor with the segments of its block (R103, R227). The wide area's base lies in the die's
scratchpad (Table 3.1, R74). -/
def blockErr (c : Chk) (x fa fb k cols : Nat) : Nat :=
  let xr := c.rd (homeAddr c.core 0 (fld x 236 215)) 64
  let f64 := fa == 4 || fb == 4
  firstErr [
    (f64 && decide (2 ^ 27 < k), 0x0404),
    (f64 && (!bitAt xr 313 || fld xr 239 192 % 32 != 0 || !inSpOf (tDie c.core) (fld xr 239 192) 1), 0x0405),
    (dExport x && decide (dFmt x < max (minForm fa) (minForm fb)) , 0x0407),
    (dPitch x == 0 || decide (dPitch x < dEbase x % dPitch x + cols), 0x0409)]

/-! Vector descriptors (Tables 5.1, 5.2). -/
def vOp (x : Nat) : Nat := fld x 37 32
def vN (x : Nat) : Nat := fld x 209 186
/-- The operation is a special function, a reduction, element-wise. -/
def vSpecial (op : Nat) : Bool := decide (0x20 ≤ op ∧ op ≤ 0x28)
def vReduce (op : Nat) : Bool := decide (0x10 ≤ op ∧ op ≤ 0x13)
def vListed (op : Nat) : Bool := decide (op ≤ 0xE) || vReduce op || vSpecial op
/-- The operation uses Y, uses Z (Table 5.3). -/
def vUsesY (op : Nat) : Bool := [1, 2, 3, 4, 5, 6, 9, 0xA, 0xB, 0xC, 0xD, 0xE].contains op
def vUsesZ (op : Nat) : Bool := op == 4 || op == 0xA
/-- The extension record, or the one an absent record stands for (R108); nothing is read at a misaligned XREC. -/
def vExt (rd : Nat → Nat → Nat) (core x : Nat) : Nat :=
  if bitAt x 61 && fld x 231 210 % 64 == 0 then rd (homeAddr core 0 (fld x 231 210)) 64 else 0
/-- Elements per row. -/
def vRow (x xr : Nat) : Nat := if fld xr 143 120 = 0 then vN x else fld xr 143 120
/-- Elements written. -/
def vOutN (x xr : Nat) : Nat := if vReduce (vOp x) then vN x / max (vRow x xr) 1 else vN x
/-- Size of one result. -/
def vOutSize (x : Nat) : Nat := fmtSize (fld x 53 50)
/-- An operand's range: offset, element size, elements read; none in constant mode. -/
def vRange (x xr off fmt mode : Nat) : Option (Nat × Nat × Nat) :=
  match mode with
  | 0 => some (off, fmtSize fmt, vN x)
  | 2 => some (off, fmtSize fmt, ceilDiv (vN x) (max (vRow x xr) 1))
  | 3 => some (off, fmtSize fmt, vRow x xr)
  | _ => none
/-- Codes of Table 5.5 that the words of a descriptor with an extension record decide alone, before the record is looked at (R223, R225; log
entry 12). -/
def vectorOwnErr (x : Nat) : Nat :=
  let op := vOp x
  let fx := fld x 41 38
  let fy := fld x 45 42
  let fz := fld x 49 46
  let fo := fld x 53 50
  let r := fld x 56 54
  let sp := vSpecial op
  let xo := fld x 92 62
  let xn := fmtSize fx * vN x
  let o := fld x 185 155
  let so := vOutSize x
  let on := so * vN x
  let whole := !vReduce op
  firstErr [
    (!vListed op, 0x0501),
    (decide (8 < fx ∨ 8 < fy ∨ 8 < fz ∨ 8 < fo) || decide (6 ≤ fx ∨ 6 ≤ fy ∨ 6 ≤ fz) || fo == 6 || fo == 8
      || (fo == 7 && !(op == 0x10 || op == 0x11)) || (sp && fo != (if bitAt x 60 then 3 else 0))
      || ((op == 0x10 || op == 0x11) && fx == 4), 0x0502),
    (decide (5 < r) || (sp && (r == 5 || (!bitAt x 60 && r != 0))), 0x0503),
    (xo % fmtSize fx != 0 || o % (if fo = 7 then 32 else so) != 0 || fld x 231 210 % 64 != 0, 0x0505),
    (vN x == 0 || decide (0x48000000 < xo + xn) || (whole && decide (0x48000000 < o + on)), 0x0506),
    (whole && decide (xo < o + on) && decide (o < xo + xn) && !(xo == o && fmtSize fx == so), 0x0507)]
/-- Codes of Table 5.5: those of the descriptor itself, then those that need its extension record (R225). -/
def vectorErr (c : Chk) (x : Nat) : Nat :=
  if bitAt x 61 && vectorOwnErr x != 0 then vectorOwnErr x else
  let op := vOp x
  let fx := fld x 41 38
  let fy := fld x 45 42
  let fz := fld x 49 46
  let fo := fld x 53 50
  let r := fld x 56 54
  let sp := vSpecial op
  let rd' := vReduce op
  let xe := bitAt x 61
  let xr := vExt c.rd c.core x
  let scale := fld xr 119 112
  let ym := fld xr 145 144
  let zm := fld xr 147 146
  let ins := [(true, vRange x xr (fld x 92 62) fx 0, true)] ++
    [(vUsesY op, vRange x xr (fld x 123 93) fy ym, ym == 0), (vUsesZ op, vRange x xr (fld x 154 124) fz zm, zm == 0)]
  let used := ins.filterMap (fun p => if p.1 then p.2.1.map (fun q => (q, p.2.2)) else none)
  let o := fld x 185 155
  let so := vOutSize x
  let on := vOutN x xr
  let narrow := op == 0 && narrows fx fo (sgn 8 scale)
  let bc := (vUsesY op && decide (2 ≤ ym)) || (vUsesZ op && decide (2 ≤ zm))
  let colBig (u : Bool) (md f : Nat) : Bool := u && md == 3 && decide (8192 < vRow x xr * fmtSize f)
  firstErr [
    (!vListed op, 0x0501),
    (decide (8 < fx ∨ 8 < fy ∨ 8 < fz ∨ 8 < fo) || decide (6 ≤ fx ∨ 6 ≤ fy ∨ 6 ≤ fz) || fo == 6 || fo == 8
      || (fo == 7 && !(op == 0x10 || op == 0x11)) || (sp && fo != (if bitAt x 60 then 3 else 0))
      || ((op == 0x10 || op == 0x11) && fx == 4), 0x0502),
    (decide (5 < r) || (sp && (r == 5 || (!bitAt x 60 && r != 0))) || (r == 5 && !xe), 0x0503),
    (scale != 0 && (sp || fo == 7), 0x0504),
    (used.any (fun p => p.1.1 % p.1.2.1 != 0) || o % (if fo = 7 then 32 else so) != 0
      || (xe && fld x 231 210 % 64 != 0) || fld xr 47 0 % 4 != 0, 0x0505),
    (vN x == 0 || used.any (fun p => decide (0x48000000 < p.1.1 + p.1.2.1 * p.1.2.2)) || decide (0x48000000 < o + on * so), 0x0506),
    (used.any (fun p => decide (p.1.1 < o + on * so) && decide (o < p.1.1 + p.1.2.1 * p.1.2.2)
      && !(!rd' && p.2 && p.1.1 == o && p.1.2.1 == so)), 0x0507),
    (((rd' || bc) && vN x % max (vRow x xr) 1 != 0) || colBig (vUsesY op) ym fy || colBig (vUsesZ op) zm fz, 0x0508),
    (narrow && !(xe && bitAt xr 148), 0x0509)]

/-! Any descriptor (R195, R196). -/

/-- The kind is known and its queue accepts it (Table 8.2). -/
def kindOk (core q k : Nat) : Bool :=
  let mc := kindOf core == .mcore
  match k with
  | 0x01 | 0x40 | 0x41 => true
  | 0x10 => q == 0 || q == 3
  | 0x21 => mc && q == 1
  | 0x22 => mc && q == 2
  | 0x31 => !mc && q == 1
  | _ => false
/-- The code a descriptor is rejected with, or 0 (R196, R219). -/
def descErr (c : Chk) (x : Nat) : Nat :=
  if !kindOk c.core c.q (hKind x) then 0x0301
  else match hKind x with
    | 0x01 => firstErr [(fld x 255 32 != 0 || bitAt x 31, 0x0302)]
    | 0x41 => firstErr [(fld x 255 35 != 0 || bitAt x 31, 0x0302), (decide (5 ≤ fld x 34 32), 0x0307)]
    | 0x10 => transferErr c x
    | 0x21 => matrixErr x
    | 0x22 => drainErr c x
    | 0x31 => vectorErr c x
    | _ => 0
/-- Records that a descriptor names, in the order in which an engine reads them: extension and conversion records, patterns on the engine's
die, a chain, a replay list (R94, R96, R99, R108, R150, R199). None where the descriptor's own words fail first (R196, R225). -/
def Chk.named (c : Chk) (x : Nat) : List (Nat × Nat) :=
  let ext (used : Bool) (off : Nat) : List (Nat × Nat) := if used && off % 64 == 0 then [(homeAddr c.core 0 off, 64)] else []
  let pat (used : Bool) (a : Nat) : List (Nat × Nat) := if used && inSpOf (tDie c.core) a 64 then [(a, 64)] else []
  if !kindOk c.core c.q (hKind x) then []
  else match hKind x with
    | 0x10 => ext (tConv x && bitAt x 236) (fld x 235 214) ++ pat (tSm x == 1) (tSrc x) ++ pat (tDm x == 1) (tDst x)
    | 0x22 =>
      let off := fld x 236 215
      let xr := c.rd (homeAddr c.core 0 off) 64
      let ca := fld xr 175 128
      let rep := fld xr 303 256
      let n := 32 * fld xr 311 304
      if off % 64 ≠ 0 then []
      else ext true off ++ (if bitAt xr 312 && ca % 128 == 0 && onDie (tDie c.core) ca 128 then [(ca, 128)] else [])
        ++ (if rep % 32 == 0 && mapped rep n then [(rep, n)] else [])
    | 0x31 => ext (bitAt x 61 && vectorOwnErr x == 0) (fld x 231 210)
    | _ => []
/-- Kinds and contents of a replay list (R96): address of the first bad descriptor and its code. Its transfers run on the
fetch engine and its segments on the matrix engine. -/
def replayErr (c : Chk) (rep n : Nat) : Option (Nat × Nat) :=
  (List.range n).findSome? (fun i =>
    let a := rep + 32 * i
    let x := c.rd a 32
    let e := match hKind x with
      | 0x10 => transferErr { c with q := 0 } x
      | 0x21 => matrixErr x
      | _ => 0x0301
    if e = 0 then none else some (a, e))

end Sys2Proof.Machine
end

