-- ==== Sys2Proof/Machine/Queues.lean ====
section
/-! DEFINITION. Engine queues: fetch and decode of lists, starts, waits, signals, completion messages, fences (R126, R127,
R194 to R214), and the pieces of transfers. -/

namespace Sys2Proof.Machine

/-- The 64-byte completion message of a list (R127). -/
def doneMsg (tile q : Nat) (l : DList) : List Byte :=
  natLE 2 tile ++ natLE 1 q ++ natLE 1 0 ++ natLE 4 l.count ++ natLE 8 l.base ++ List.replicate 48 0
/-- A list whose every descriptor has performed its signal ends and its message leaves; the message enters its ring once the list's
writes are complete at module scope (R127, R214). -/
def Mod.closeList (m : Mod) (tile q lid : Nat) : Mod :=
  let e := m.e tile q
  match e.lists.find? (fun l => l.id == lid) with
  | none => m
  | some l =>
    if l.signalled < l.count then m
    else
      let m1 := m.eput tile q { e with lists := e.lists.filter (fun l => l.id != lid) }
      if l.chan = 0xFFFF then m1 else { m1 with msgs := m1.msgs ++ [⟨l.ctx, l.chan, doneMsg tile q l, tile, 0⟩] }
/-- A descriptor completes and performs its signal (R131, R202). -/
def Mod.finish (m : Mod) (tile q seq : Nat) : Mod :=
  let e := m.e tile q
  match e.buf.find? (fun d => d.seq == seq) with
  | none => m
  | some d =>
    let m1 := m.eput tile q { e with buf := e.buf.filter (fun d => d.seq != seq),
                                     lists := e.lists.map (fun l => if l.id = d.lid then { l with signalled := l.signalled + 1 } else l) }
    let m2 := if hSigCnt d.raw = 0 then m1 else m1.tput tile ((m1.t tile).semAdd (hSigSem d.raw) (hSigCnt d.raw))
    m2.closeList tile q d.lid

/-- Engine code of a queue for semaphore waits (R133). -/
def waitEng (q : Nat) : Nat := q + 2
/-- A descriptor fault (R196, Table 10.10). -/
def Mod.descFault (m : Mod) (tile c a : Nat) : Mod := m.cmdFault c 0x0809 (a % 2 ^ 48 + tile * 2 ^ 48)

/-- The first list with descriptors still to fetch. -/
def Eng.nextList (e : Eng) : Option DList := e.lists.find? (fun l => decide (l.fetched < l.count))
/-- A queue of a core reads ranges in order for a command; a range without an address gives zeros. None when an access faulted or waits for a
die. -/
def Mod.readRanges (m : Mod) (tile q c : Nat) : List (Option Nat × Nat) → Option (List Byte) × Mod
  | [] => (some [], m)
  | (none, n) :: rs =>
    match m.readRanges tile q c rs with
    | (some bs, m1) => (some (List.replicate n 0 ++ bs), m1)
    | r => r
  | (some a, n) :: rs =>
    match m.fetchQ tile q c a n with
    | (none, m1) => (none, m1)
    | (some b, m1) =>
      match m1.readRanges tile q c rs with
      | (some bs, m2) => (some (b ++ bs), m2)
      | r => r
/-- An engine reads the records that a descriptor names, each as a request of its own that is checked at its tile (R140, R196). -/
def Mod.readNamed (m : Mod) (tile q c x : Nat) : Option (List Byte) × Mod :=
  m.readRanges tile q c (((m.chk tile q).named x).map (fun r => (some r.1, r.2)))
/-- Decode descriptors in order with the records that they name: those that pass, and whether the next one failed (R196, R219). Decoding
stops where a record cannot be read. -/
def Mod.decode (tile q c : Nat) : List Nat → Mod → (List Nat × Bool) × Mod
  | [], m => (([], false), m)
  | x :: xs, m =>
    match m.readNamed tile q c x with
    | (none, m1) => (([], false), m1)
    | (some _, m1) =>
      if descErr (m1.chk tile q) x ≠ 0 then (([], true), m1)
      else let r := Mod.decode tile q c xs m1; ((x :: r.1.1, r.1.2), r.2)
/-- The next burst of at most 16 descriptors of one list, when 16 places are free: decoded up to the first that fails (R196, R201). -/
def Mod.burst (m : Mod) (tile q : Nat) : Mod :=
  let e := m.e tile q
  match e.nextList with
  | none => m
  | some l =>
    if 48 < e.buf.length then m
    else if l.base % 32 ≠ 0 then m.descFault tile l.ctx l.base
    else
      let a := l.base + 32 * l.fetched
      let n := Nat.min 16 (l.count - l.fetched)
      match m.fetchQ tile q l.ctx a (32 * n) with
      | (none, m1) => m1
      | (some bs, m1) =>
        let r := Mod.decode tile q l.ctx ((chunks 32 bs).map leNat) m1
        let good := r.1.1
        let ds := good.zipIdx.map (fun p =>
          ({ seq := l.id * 65536 + (l.fetched + p.2), lid := l.id, idx := l.fetched + p.2, addr := a + 32 * p.2, raw := p.1, ctx := l.ctx } : Desc))
        let e := r.2.e tile q
        let m2 := r.2.eput tile q { e with buf := e.buf ++ ds,
                                           lists := e.lists.map (fun k => if k.id = l.id then { k with fetched := k.fetched + good.length } else k) }
        if r.2.mon.fltState ≠ 0 then r.2
        else if r.1.2 then m2.descFault tile l.ctx (a + 32 * good.length) else m2
/-- DESCRIPTOR_BURST_ARRIVE (R201). -/
def execDescriptorBurstArrive (tile q : Nat) (s : State) : Host.Outcome State Fault Refusal := .next (s.on fun m => m.burst tile q)

/-- The oldest descriptor not yet started. -/
def Eng.head (e : Eng) : Option Desc := e.buf.find? (fun d => !d.started)
/-- No earlier fence runs, fewer than 48 started descriptors are incomplete, and a mark's conditions hold (R202 to R204). -/
def Eng.mayStart (e : Eng) (d : Desc) : Bool :=
  !e.paused && (e.buf.filter (fun x => x.started)).all (fun x => hKind x.raw != 0x41)
  && decide ((e.buf.filter (fun x => x.started)).length ≤ 47)
  && (!hDep d.raw || (e.dep == some d.seq && (e.buf.find? (fun _ => true)).map (·.seq) == some d.seq))
/-- Replace a descriptor of a queue. -/
def Eng.setDesc (e : Eng) (d : Desc) : Eng := { e with buf := e.buf.map (fun x => if x.seq = d.seq then d else x) }
/-- The head of a queue, when it is of a kind and may start: its wait is asked once and the descriptor is given when it is granted. -/
def Mod.startHead (m : Mod) (tile q kind : Nat) : Option Desc × Mod :=
  let e := m.e tile q
  match e.head with
  | none => (none, m)
  | some d =>
    if hKind d.raw ≠ kind ∨ !e.mayStart d ∨ (m.run? d.ctx).isNone ∨ m.quietTile tile then (none, m)
    else if d.wait = 2 ∨ hWaitCnt d.raw = 0 then (some d, m)
    else if d.wait = 1 then (none, m)
    else
      match (m.t tile).semWait (waitEng q) (hWaitSem d.raw) (hWaitCnt d.raw) with
      | (true, t) => let m1 := m.tput tile t; (some { d with wait := 2 }, m1.eput tile q ((m1.e tile q).setDesc { d with wait := 2 }))
      | (false, t) => let m1 := m.tput tile t; (none, m1.eput tile q ((m1.e tile q).setDesc { d with wait := 1 }))
/-- Two lists of ranges share a byte. -/
def rangesMeet (xs ys : List (Nat × Nat)) : Bool := xs.any (fun x => ys.any (fun y => decide (x.1 < y.1 + y.2) && decide (y.1 < x.1 + x.2)))
/-- A started transfer that still has bytes to write: a sink or a remote read (R198). -/
def Desc.writesLater (d : Desc) : Bool := d.started && hKind d.raw == 0x10 && ((tSm d.raw == 2 && decide (d.off < tLen d.raw)) || d.rem != 0)
/-- Where a destination mode writes: 0 device memory, 1 host memory, 2 a window. -/
def dstSpace (dm : Nat) : Nat := if dm = 4 then 1 else if dm = 3 then 2 else 0
/-- Bytes of a window as a range: the module, the window and the byte offset in it (Table 12.7). -/
def winSpan (a n : Nat) : Nat × Nat := (fld a 47 26 * 2 ^ 30 + 32 * fld a 24 0, n)
/-- An access of a transfer to ranges of device memory, host memory or a window must wait for an earlier transfer of the engine that has
still to write them (R208). -/
def Eng.mustFollow (e : Eng) (space : Nat) (rs : List (Nat × Nat)) : Bool :=
  e.buf.any (fun x => x.writesLater && dstSpace (tDm x.raw) == space && rangesMeet x.dst rs)
/-- An access to a window must wait for an earlier one of the engine to a common byte that is not complete, unless both read (R208). -/
def Mod.windowBusy (m : Mod) (tile q : Nat) (wr : Bool) (r : Nat × Nat) : Bool :=
  m.ers.txns.any (fun t => t.core == tile && t.q == q && (wr || t.kind != 0) && rangesMeet [winSpan t.addr t.len] [r])
/-- Mark a descriptor started. -/
def Mod.markStarted (m : Mod) (tile q : Nat) (d : Desc) : Mod := m.eput tile q ((m.e tile q).setDesc { d with started := true })

/-- SYNC: the signal follows the wait at once (R196). -/
def execSyncDescriptor (tile q : Nat) (s : State) : Host.Outcome State Fault Refusal :=
  .next (s.on fun m => match m.startHead tile q 0x01 with
    | (some d, m1) => (m1.markStarted tile q d).finish tile q d.seq
    | (none, m1) => m1)
/-- FENCE_DESCRIPTOR: the fence starts; no later descriptor starts before it ends (R204). -/
def execFenceDescriptor (tile q : Nat) (s : State) : Host.Outcome State Fault Refusal :=
  .next (s.on fun m => match m.startHead tile q 0x41 with
    | (some d, m1) => m1.markStarted tile q d
    | (none, m1) => m1)
/-- FENCE_DESCRIPTOR_END: earlier descriptors are complete and their accesses ordered at the scope; the signal (R204, R211). -/
def execFenceDescriptorEnd (tile q : Nat) (s : State) : Host.Outcome State Fault Refusal :=
  .next (s.on fun m => match (m.e tile q).buf.find? (fun _ => true) with
    | some d =>
      if hKind d.raw = 0x41 ∧ d.started ∧ m.quietAt tile q (fld d.raw 34 32) then
        let m1 := if 3 ≤ fld d.raw 34 32 then m.eput tile q { m.e tile q with strict := true } else m
        m1.finish tile q d.seq
      else m
    | none => m)
/-- DEPENDENCE_MARK: earlier descriptors are complete; the marked one and those behind it are read again (R203). A transfer of a replay
list, which the engine did not fetch from its queue's lists, runs on (R96). -/
def execDependenceMark (tile q : Nat) (s : State) : Host.Outcome State Fault Refusal :=
  .next (s.on fun m =>
    let e := m.e tile q
    match e.buf.find? (fun _ => true) with
    | some d =>
      if !d.started ∧ hDep d.raw ∧ e.dep ≠ some d.seq ∧ d.wait = 0 then
        m.eput tile q { e with buf := e.buf.filter (fun x => decide (2 ^ 60 ≤ x.seq)), dep := some d.seq, lists := e.lists.map (fun l =>
          { l with fetched := if l.id = d.lid then d.idx else if d.lid < l.id then 0 else l.fetched }) }
      else m
    | none => m)

/-! Pieces of a transfer (R150 to R153, R197 to R199). -/

/-- Ranges a source pattern reads in output order; none stands for a run of zeros. A gather that meets an index out of range
gives the ranges before it and the index's position (R153). -/
def patSource (rd : Nat → Nat → Nat) (x : Nat) : List (Option Nat × Nat) × Option Nat :=
  match fld x 3 0 with
  | 1 => ((stridedRuns x).map (fun a => (some a.toNat, pRun x)), none)
  | 4 =>
    let n := fld x 159 144 * 64
    let ix := (List.range (fld x 207 192)).map (fun i => rd (fld x 111 64 + 4 * i) 4)
    let bad (v : Nat) : Bool := decide (fld x 191 160 ≤ v) && v != 0xFFFFFFFF
    let good := ix.takeWhile (fun v => !bad v)
    (good.map (fun v => (if v = 0xFFFFFFFF then none else some (fld x 55 8 + v * fld x 143 112), n)),
     if good.length < ix.length then some good.length else none)
  | _ =>
    ((List.range (trC x)).flatMap (fun c => (List.range (trR x)).map (fun r =>
      (some (fld x 55 8 + r * trPitch x + c * trSize x), trSize x))), none)
/-- Bytes that the spec leaves undefined from here on are free values; what still waits to be written there has been. -/
def Mod.undefine (m : Mod) (u a n : Nat) : Mod :=
  let m1 := m.serveAll (fun _ r => r.core == u && decide (r.addr < a + n) && decide (a < r.addr + r.bytes.length))
  m1.forget a n
/-- Cut bytes over ranges, in order. -/
def spread : List (Nat × Nat) → List Byte → List (Nat × List Byte)
  | [], _ => []
  | (a, n) :: rs, bs => if bs.isEmpty then [] else (a, bs.take n) :: spread rs (bs.drop n)
/-- Skip bytes of a list of ranges. -/
def skipRanges : List (Nat × Nat) → Nat → List (Nat × Nat)
  | [], _ => []
  | (a, n) :: rs, k => if k < n then (a + k, n - k) :: rs else skipRanges rs (k - n)
/-- Ranges a destination writes in output order (R151, R152): none at an endpoint, bytes of a window at a remote one. A host destination takes a transposed source's gaps as a device address
does (log entry 79). -/
def dstRanges (c : Chk) (x : Nat) : List (Nat × Nat) :=
  if tDm x = 1 then
    let p := c.rd (tDst x) 64
    (stridedRuns p).map (fun a => (a.toNat, pRun p))
  else if tGaps c x then
    let p := c.rd (tSrc x) 64
    (List.range (trC p)).map (fun i => (tDst x + i * trOPitch p, trR p * trSize p))
  else if tDm x = 3 then [winSpan (tDst x) (tLen x)]
  else if tDm x = 2 then []
  else [(tDst x, tRecv x)]
/-- Largest payload of a host write (R372). -/
def HostIf.payload (h : HostIf) : Nat := 128 * 2 ^ h.mps
/-- Write bytes to a transfer's local or host destination at an output offset (R198). Host writes go out on the tenancy's function, cut at
the payload size; the first after a fence at module or domain scope is not relaxed (R200, R215). -/
def Mod.putDst (m : Mod) (tile q : Nat) (d : Desc) (off : Nat) (bs : List Byte) : Mod :=
  let pieces := spread (skipRanges d.dst off) bs
  if tDm d.raw = 4 then
    (pieces.flatMap (fun p => cutEvery m.host.payload (p.2.length + 1) p.1 p.2)).foldl (fun m p =>
      ((m.charge d.ctx 8 p.2.length).hostWr (tenOf d.ctx) p.1 p.2 (!(m.e tile q).strict)).eput tile q { m.e tile q with strict := false }) m
  else pieces.foldl (fun m p => m.issue tile q d.seq d.ctx p.1 p.2) m

end Sys2Proof.Machine
end

