-- ==== Sys2Proof/Machine/Matrix.lean ====
section
/-! DEFINITION. The matrix and drain engines of an M-core: chunks, passes, re-exposure, the fix unit, finalisation and the bath
chain (R55 to R79, R83 to R103). -/

namespace Sys2Proof.Machine

def Mod.mput (m : Mod) (tile : Nat) (c : MCore) : Mod := m.tput tile { m.t tile with mc := c }

/-! Segments and chunks. -/

/-- The replay descriptor that a deferral round runs next, its semaphore fields ignored but its DEP mark kept (R96, R203). -/
def Mod.replayDesc (m : Mod) (tile : Nat) : Option Desc :=
  let c := m.t tile |>.mc
  match c.round, c.taken, c.prev with
  | true, some (_, x), some b =>
    let rd := (m.chk tile 0).rd
    let xr := rd (homeAddr tile 0 (fld x 236 215)) 64
    if c.replay < fld xr 311 304 then
      let raw := rd (fld xr 303 256 + 32 * c.replay) 32
      some { seq := 2 ^ 60 + c.replay, lid := 2 ^ 60, idx := c.replay, addr := fld xr 303 256 + 32 * c.replay,
             raw := setFld raw 29 8 0, ctx := b.ctx, wait := 2 }
    else none
  | _, _, _ => none
/-- A segment breaks BLOCK_ORDER or SEGMENT_MISMATCH against the open block (R93). -/
def MCore.breaks (c : MCore) (x : Nat) : Bool :=
  mFirst x == c.opened || (c.opened && !(mA x == c.afmt && mB x == c.bfmt && mRows x == c.rows && mCols x == c.cols))
/-- MATRIX_SEGMENT_START (R92, R93): the segment is queued for loading, in a fresh block when it carries FIRST. A replay list's segments
are checked one by one, and neither their formats nor their FIRST and LAST are held to the block's; the block's first segment gives the
formats that the arrays work in (log entry 78). A descriptor of a kind that the list may not hold fails decode (R96, R196). -/
def Mod.segStart (m : Mod) (tile : Nat) : Mod :=
  let c := (m.t tile).mc
  if !c.pass.src.isEmpty || m.quietTile tile then m
  else match m.replayDesc tile with
    | some d =>
      if hKind d.raw = 0x10 ∨ (m.e tile 0).buf.any (fun x => decide (2 ^ 60 ≤ x.seq)) then m
      else match m.fetchQ tile 1 d.ctx d.addr 32 with
      | (none, m1) => m1
      | (some _, m) =>
      if hKind d.raw ≠ 0x21 ∨ matrixErr d.raw ≠ 0 then m.descFault tile d.ctx d.addr
      else m.mput tile { c with replay := c.replay + 1, pass := { c.pass with src := [(d.seq, d.raw)], ldK := 0 } }
    | none =>
      if c.round then m
      else match m.startHead tile 1 0x21 with
      | (none, m1) => m1
      | (some d, m1) =>
        if c.breaks d.raw then m1.descFault tile d.ctx d.addr
        else if mFirst d.raw ∧ c.nxt.isSome then m1
        else
          let m2 := m1.markStarted tile 1 d
          let c := (m2.t tile).mc
          let c1 : MCore :=
            if mFirst d.raw then
              let b : Blk := { id := c.nblk, ctx := d.ctx, segs := [(d.seq, d.raw)] }
              { c with nblk := c.nblk + 1, afmt := mA d.raw, bfmt := mB d.raw, rows := mRows d.raw, cols := mCols d.raw,
                       blk := if c.blk.isNone then some b else c.blk, nxt := if c.blk.isNone then none else some b }
            else
              let add (b : Blk) : Blk := { b with segs := b.segs ++ [(d.seq, d.raw)] }
              if c.nxt.isSome then { c with nxt := c.nxt.map add } else { c with blk := c.blk.map add }
          m2.mput tile { c1 with opened := !mLast d.raw, pass := { c1.pass with src := [(d.seq, d.raw)], ldK := 0 } }
/-- MATRIX_SEGMENT_START (R92). -/
def execMatrixSegmentStart (tile : Nat) (s : State) : Host.Outcome State Fault Refusal := .next (s.on fun m => m.segStart tile)

/-- The chunk of a segment that starts at k (R57, R83, R85). -/
def loadChunk (rd : Nat → Nat → Nat) (tile seq x k : Nat) : Chunk :=
  let n := Nat.min 256 (mK x - k)
  let sa := fmtSize (mA x)
  let sb := fmtSize (mB x)
  let aAt (r kk : Nat) : Nat := homeAddr tile (r / 128) ((if r < 128 then fld x 78 57 else fld x 100 79) + (k + kk) * fld x 120 101 + r % 128 * sa)
  let bAt (kk c : Nat) : Nat := homeAddr tile (c / 32) ((if c < 32 then fld x 142 121 else fld x 164 143) + (k + kk) * fld x 184 165 + c % 32 * sb)
  { a := (List.range (mRows x)).flatMap (fun r => (List.range n).map (fun kk => (256 * r + kk, rd (aAt r kk) sa))),
    b := (List.range n).flatMap (fun kk => (List.range (mCols x)).map (fun c => (64 * kk + c, rd (bAt kk c) sb))),
    klen := n, seg := seq, segEnd := decide (mK x ≤ k + n), last := mLast x && decide (mK x ≤ k + n) }
/-- Ranges that a chunk's load reads: whole rows and columns, masked ones included (R82). -/
def chunkRanges (tile x k n : Nat) : List (Nat × Nat) :=
  ((List.range n).map (fun i => k + i)).flatMap (fun k =>
    [(homeAddr tile 0 (fld x 78 57 + k * fld x 120 101), 128 * fmtSize (mA x)), (homeAddr tile 1 (fld x 100 79 + k * fld x 120 101), 128 * fmtSize (mA x)),
     (homeAddr tile 0 (fld x 142 121 + k * fld x 184 165), 32 * fmtSize (mB x)), (homeAddr tile 1 (fld x 164 143 + k * fld x 184 165), 32 * fmtSize (mB x))])
/-- The next chunk of a segment is read, line by line at the banks of the home tiles, and stands in a half of the buffer (R83, R138, R140,
R145). -/
def Mod.chunkIn (m : Mod) (tile seq x : Nat) (rest : List (Nat × Nat)) : Mod :=
  let c := (m.t tile).mc
  let k := c.pass.ldK
  let n := Nat.min 256 (mK x - k)
  let ctx := (((if c.round then c.prev else if c.nxt.isSome then c.nxt else c.blk).map (·.ctx))).getD 65535
  let ranges := chunkRanges tile x k n
  match (homesOf tile).find? (fun h => !m.tenOk (mtOf h) (tenOf ctx)) with
  | some h => m.cmdFault ctx 0x0807 (tileBase h + tile * 2 ^ 48)
  | none =>
    if ranges.any (fun p => m.uncorrectable p.1 p.2) then ranges.foldl (fun m p => m.readMark p.1 p.2) m
    else
      let r := m.readLines tile 1 (ranges.flatMap (fun p => lineAddrs p.1 p.2))
      let m1 := ranges.foldl (fun m p => m.readMark p.1 p.2) r.2
      if m1.mon.fltState ≠ 0 then m1
      else
        let ch := loadChunk (fun a n => leNat (mread 0 r.1 a n)) tile seq x k
        let m2 := (m1.charge ctx 5 (n * (256 * fmtSize (mA x) + 64 * fmtSize (mB x)))).readLatency tile ctx (.sp (mtOf (home0 tile)))
        let c := (m2.t tile).mc
        let done := decide (mK x ≤ k + 256)
        m2.mput tile { c with pass := { c.pass with half := c.pass.half ++ [ch], src := if done then rest else c.pass.src, ldK := if done then 0 else k + 256 } }
/-- CHUNK_LOADED: the next chunk of the segment stands in a free half of the buffer (R83). A replayed or in-place segment closes its round
where the block's last segment did. -/
def execChunkLoaded (tile : Nat) (s : State) : Host.Outcome State Fault Refusal :=
  .next (s.on fun m =>
    let p := (m.t tile).mc.pass
    match p.src with
    | [] => m
    | (seq, x) :: rest => if 2 ≤ p.half.length then m else m.chunkIn tile seq x rest)

/-! Passes and cells. -/

/-- Block the arrays work for: the previous block in a round, else the first block whose passes have not ended. -/
def MCore.target (c : MCore) : Option Blk :=
  if c.round then c.prev
  else match c.blk with
    | some b => if b.closed then c.nxt else some b
    | none => none
/-- PASS_START: a whole chunk stands in its half and the drain of the pass before the previous one has ended (R71, R83). -/
def execPassStart (tile : Nat) (s : State) : Host.Outcome State Fault Refusal :=
  .next (s.on fun m =>
    let c := (m.t tile).mc
    if c.pass.half.isEmpty || c.pass.running || !c.pass.later.isEmpty || c.target.isNone then m
    else m.mput tile { c with pass := { c.pass with running := true, cells := [] } })

/-- One product of a slice pair: its flags (R32, R51), and exponent and signed chunk product when it is not null (R55, R56). -/
def sliceProduct (fa fb ra rb i j : Nat) : Nat × Option (Int × Int) :=
  let v := Epr.ofNum (xmul (decodeNum fa ra) (decodeNum fb rb))
  let fin := !(v.nan || v.pinf || v.ninf)
  let (ca, ea) := sliceOf fa ra i
  let (cb, eb) := sliceOf fb rb j
  let q : Int := (ca * cb : Nat)
  (v.flagBits, if fin && ca * cb != 0 then some (ea + eb, if signOf fa ra != signOf fb rb then -q else q) else none)
/-- Join flags: OR of NAN, PINF and NINF, AND of NEGZ (R33). -/
def joinFlags (x y : Nat) : Nat := ((x ||| y) % 8) + 8 * (x / 8 % 2 * (y / 8 % 2))
/-- Maximum and minimum with an absent value. -/
def omax (o : Option Int) (f : Int) : Int := match o with | some a => max a f | none => f
def omin (o : Option Int) (f : Int) : Int := match o with | some a => min a f | none => f
/-- A cell takes one product (R58). -/
def Cell.take (c : Cell) (p : Nat × Option (Int × Int)) : Cell :=
  let c := { c with flags := joinFlags c.flags p.1, n := c.n + 1 }
  match p.2 with
  | none => c
  | some (f, sq) =>
    if (match c.hi with | some h => decide (h < f) | none => false) then c
    else
      let c := { c with fmax := some (omax c.fmax f) }
      if c.spill || (match c.lo with | some l => decide (f < l) | none => false) then c
      else
        let a := omax c.anc f
        let b := omin c.fmin f
        if 63 < a - b then { c with spill := true }
        else
          let w := c.win / ((2 ^ (a - c.anc.getD a).toNat : Nat) : Int) + sq * ((2 ^ (f - a + 63).toNat : Nat) : Int)
          { c with win := w, anc := some a, fmin := some b, acc := true }
/-- A cell as a pass of a kind starts it (R58, R61). -/
def cellInit (kind : Nat) (top : Option Int) : Cell :=
  match kind, top with
  | 1, some a => { lo := some (a - 63), hi := some a }
  | 2, some a => { hi := some (a - 64) }
  | _, _ => {}
/-- The unmasked cells that take part in a pass (R61, R62): all of the block in a first pass, the spilled ones in the others. -/
def MCore.live (c : MCore) (x : Nat) : List Nat :=
  if c.pass.kind = 0 then (List.range (mRows x)).flatMap (fun r => (List.range (mCols x)).map (fun k => 64 * r + k)) else c.pass.top.map (·.1)
/-- Give cell o the rest of its products up to a bound. -/
def feedCell (x : Nat) (ch : Chunk) (i j o upto : Nat) (c0 : Cell) : Cell :=
  (List.range (upto - c0.n)).foldl (fun c _ =>
    c.take (sliceProduct (mA x) (mB x) (tget 0 ch.a (256 * (o / 64) + c.n)) (tget 0 ch.b (64 * c.n + o % 64)) i j)) c0
/-- The state of cell o in the running pass. -/
def MCore.cell (c : MCore) (o : Nat) : Cell := (tget? c.pass.cells o).getD (cellInit c.pass.kind (tget? c.pass.top o))
/-- CELL_PRODUCT: a cell takes its next product of the pass (R58). -/
def execCellProduct (tile cell : Nat) (s : State) : Host.Outcome State Fault Refusal :=
  .next (s.on fun m =>
    let c := (m.t tile).mc
    match c.target, c.pass.half with
    | some b, ch :: _ =>
      let o := c.cell cell
      if c.pass.running && (c.live b.shape).contains cell && decide (o.n < ch.klen) then
        m.mput tile { c with pass := { c.pass with cells := tset c.pass.cells cell (feedCell b.shape ch c.pass.pi c.pass.pj cell (o.n + 1) o) } }
      else m
    | _, _ => m)

/-- The next pass of a chunk after a pass with spilled cells, or the next pair, or the chunk's end (R61, R84). -/
def Pass.advance (p : Pass) (x : Nat) (top : Tbl Int) : Pass × Bool :=
  let p := { p with running := false, cells := [] }
  if p.kind = 1 then ({ p with kind := 2 }, false)
  else if !top.isEmpty then ({ p with kind := 1, top := top, bands := p.bands + 1 }, false)
  else
    let p := { p with kind := 0, top := [], reexp := p.reexp + p.bands, bands := 0 }
    if p.pj + 1 < sliceCount (mB x) then ({ p with pj := p.pj + 1 }, false)
    else if p.pi + 1 < sliceCount (mA x) then ({ p with pi := p.pi + 1, pj := 0 }, false)
    else ({ p with pi := 0, pj := 0, half := p.half.drop 1 }, true)
/-- A segment's signal after its last pass, unless HOLD keeps it for finalisation or a round replays it (R89). -/
def Mod.segDone (m : Mod) (tile : Nat) (b : Blk) (seq : Nat) : Mod :=
  match b.segs.find? (fun p => p.1 == seq) with
  | some p => if mHold p.2 then m else m.finish tile 1 seq
  | none => m
/-- Cells of the array that a block masks (R82), as outputs of 256 rows and 64 columns. -/
def maskedCells (x : Nat) : List Nat :=
  (List.range 16384).filter (fun o => decide (mRows x ≤ o / 64) || decide (mCols x ≤ o % 64))
/-- PASS_END: every live cell has taken its products and drains a record, every masked one a flags-only record, which changes no output; spilled cells are re-exposed
(R61, R62, R71, R82). -/
def Mod.passEnd (m : Mod) (tile : Nat) : Mod :=
  let c := (m.t tile).mc
  match c.target, c.pass.half with
  | some b, ch :: _ =>
    if !c.pass.running then m
    else
      let x := b.shape
      let cells := (c.live x).map (fun o => (o, feedCell x ch c.pass.pi c.pass.pj o ch.klen (c.cell o)))
      let recs := cells.map (fun p =>
        ({ blk := b.id, out := p.1, win := if p.2.acc && !p.2.spill then p.2.win else 0, anc := p.2.anc.getD 0, flags := p.2.flags,
           acc := p.2.acc && !p.2.spill, d := c.pass.pi + c.pass.pj } : DrainRec))
        ++ (if c.pass.kind = 0 then (maskedCells x).map (fun o => ⟨b.id, o, 0, 0, 8, false, c.pass.pi + c.pass.pj⟩) else [])
      let top := (cells.filter (fun p => p.2.spill)).map (fun p => (p.1, p.2.fmax.getD 0))
      let adv := c.pass.advance x top
      let p1 := if adv.1.recs.isEmpty then { adv.1 with recs := recs } else { adv.1 with later := recs }
      let m0 := if adv.2 then m.sample 0x07 (tDie tile) (some tile) (some b.ctx) p1.reexp else m
      let p2 := if adv.2 then { p1 with reexp := 0 } else p1
      let ends := adv.2 && ch.last && !c.round
      let close (b : Blk) : Blk := if ends then { b with closed := true } else b
      let set (o : Option Blk) : Option Blk := o.map (fun k => if k.id = b.id then close k else k)
      let m1 := m0.mput tile { c with pass := p2, blk := set c.blk, nxt := set c.nxt, prev := set c.prev }
      if adv.2 && ch.segEnd && !c.round then m1.segDone tile b ch.seg else m1
  | _, _ => m
/-- PASS_END (R61). -/
def execPassEnd (tile : Nat) (s : State) : Host.Outcome State Fault Refusal := .next (s.on fun m => m.passEnd tile)

/-! The fix unit (R64 to R70). -/

/-- s fits a window of w bits. -/
def fits (s : Int) (w : Nat) : Bool := decide (-(2 ^ (w - 1) : Nat) ≤ s) && decide (s < (2 ^ (w - 1) : Nat))
/-- Trailing zeros of a non-zero number. -/
def tz : Nat → Nat → Nat
  | 0, _ => 0
  | f + 1, x => if x % 2 = 0 then tz f (x / 2) + 1 else 0
/-- The drain descriptor that belongs to the first block not finalised (R88, R94). -/
def Mod.drainRaw (m : Mod) (tile : Nat) : Option Nat :=
  (m.t tile).drainRaw
/-- Its extension record, read anew at each use: the spec does not say when the drain engine reads it (R94; DESIGN CHOICE, log entry 107). -/
def Mod.xrec (m : Mod) (tile x : Nat) : Nat := (m.chk tile 2).rd (homeAddr tile 0 (fld x 236 215)) 64
/-- The tank bank of a block (R64): the banks alternate. -/
def Blk.bank (b : Blk) : Nat := b.id % 2
/-- A free long-form entry: the lowest-numbered one (R67; log entry 85). -/
def MCore.freeForm (c : MCore) : Option Nat := (List.range 512).find? (fun i => (tget? c.pool i).isNone)
/-- Where a drained sum goes: kept, long form, wide slot, deferred, or the engine waits (R66, R69). -/
inductive FixStep where
  | done (t : Tank) | long (t : Tank) (e : LForm) | wide (t : Tank) (v : Epr) | wait
/-- A wide slot: the lowest-numbered free one (log entry 85), or the output is deferred; with no drain descriptor at hand the drain waits
(log entry 14). W and A of a tank whose MODE is not 0 are 0 (DESIGN CHOICE, log entry 109). -/
def toWide (b : Blk) (slots : Option Nat) (t : Tank) (v : Epr) : FixStep :=
  match slots with
  | none => .wait
  | some n =>
    match (List.range n).find? (fun i => !b.slots.contains i) with
    | some i => .wide { t with w := 0, a := 0, mode := 2, idx := i, empty := false } v
    | none => .done { t with w := 0, a := 0, mode := 3, idx := 0 }
/-- Add m * 2^l to output o's accumulator whose present value is given (R66). Table 3.3 gives A no meaning once MODE is not 0; nothing reads it
then, and it is set to 0 (DESIGN CHOICE, log entry 109). -/
def fixAdd (c : MCore) (b : Blk) (slots : Option Nat) (o : Nat) (t : Tank) (v : Epr) (mm l : Int) : FixStep :=
  let sum := v.add ⟨mm, l, false, false, false, true⟩
  if t.mode = 2 then .wide t sum
  else
    let a := if t.empty then l else min v.a l
    let s := sum.windowAt a
    if t.mode = 1 then
      (if fits s 640 then .long t ⟨s, a, o, b.bank⟩ else toWide b slots t sum)
    else if fits s 172 then .done { t with w := s, a := a, empty := false }
    else if fits s 640 then
      match c.freeForm with
      | some i => .long { t with w := 0, a := 0, empty := false, mode := 1, idx := i } ⟨s, a, o, b.bank⟩
      | none => if c.pool.any (fun p => p.2.bank != b.bank) then .wait else .done { t with w := 0, a := 0, mode := 3 }
    else toWide b slots t sum
/-- Address of wide slot i. -/
def slotAddr (xr i : Nat) : Nat := fld xr 239 192 + 544 * i
/-- The accumulator's value as it stands, without flags. -/
def Tank.held (rd : Nat → Nat → Nat) (pool : Tbl LForm) (xr : Nat) (t : Tank) : Epr :=
  if t.mode = 2 then { Epr.ofNat 8 (rd (slotAddr xr t.idx) 544) with nan := false, pinf := false, ninf := false, negz := true }
  else if t.mode = 1 then (match tget? pool t.idx with | some e => ⟨e.w, e.a, false, false, false, true⟩ | none => ⟨0, t.a, false, false, false, true⟩)
  else ⟨t.w, t.a, false, false, false, true⟩
/-- One drained record enters its output's accumulator; no block when the drain engine waits (R66). The slow path reads a wide slot, adds
and writes it back; the record it writes carries flags 0b1000, for the tank keeps the output's (R65; log entry 85). -/
def Mod.fixRecord (m : Mod) (tile : Nat) (b : Blk) (r : DrainRec) : Option Blk × Mod :=
  let c := (m.t tile).mc
  let t0 := tget {} b.tanks r.out
  if c.round && b.written.contains r.out then (some b, m)
  else
    let t := { t0 with flags := joinFlags t0.flags r.flags }
    let put (t : Tank) : Blk := { b with tanks := tset b.tanks r.out t }
    if t.mode = 3 || !r.acc || r.win == 0 then (some (put t), m)
    else
      let z := tz 88 r.win.natAbs
      let raw := m.drainRaw tile
      let xr := match raw with | some x => m.xrec tile x | none => 0
      let slots := match raw with | some _ => some (if bitAt xr 313 then fld xr 255 240 + 1 else 0) | none => none
      match m.readRanges tile 2 b.ctx (if t.mode = 2 then [(some (slotAddr xr t.idx), 544)] else []) with
      | (none, m1) => (none, m1)
      | (some _, m1) =>
        let free (m : Mod) : Mod := if t.mode = 1 then m.mput tile { (m.t tile).mc with pool := tdel (m.t tile).mc.pool t.idx } else m
        match fixAdd c b slots r.out t (t.held (m1.chk tile 2).rd c.pool xr) (r.win / (2 ^ z : Nat)) (r.anc - 77 - 8 * (r.d : Int) + z) with
        | .done u => (some (put u), if u.mode = 3 then free m1 else m1)
        | .long u e => (some (put u), m1.mput tile { (m1.t tile).mc with pool := tset (m1.t tile).mc.pool u.idx e })
        | .wide u v => (some { put u with slots := linsert u.idx b.slots }, (free m1).issue tile 2 0 b.ctx (slotAddr xr u.idx) (natLE 544 (v.toNat 8)))
        | .wait => (none, m1)
/-- A block whose passes and drains have ended stands for finalisation when the previous one is done (R70, R88). -/
def MCore.shift (c : MCore) : MCore :=
  match c.blk with
  | some b => if b.closed && c.pass.recs.all (fun r => r.blk != b.id) && c.pass.later.all (fun r => r.blk != b.id) && c.prev.isNone then
      { c with prev := some b, blk := c.nxt, nxt := none } else c
  | none => c
/-- The first waiting record drains (R66, R71): the block's first drain waits for the previous block's finalisation. Pool and wide-slot
occupancy are sampled once per drain, after its last record (R79; log entry 36). -/
def Mod.fixDrain (m : Mod) (tile : Nat) : Mod :=
  let c := (m.t tile).mc
  match c.pass.recs with
  | [] => m
  | r :: rs =>
    let tgt := if c.round then c.prev else if c.prev.isSome then none else c.blk
    match tgt with
    | none => m
    | some b =>
      if b.id ≠ r.blk then m
      else match m.fixRecord tile b r with
        | (none, m1) => m1.mput tile { (m1.t tile).mc with pass := { c.pass with stalled := true } }
        | (some b1, m1) =>
          let c := (m1.t tile).mc
          let p := if rs.isEmpty then { c.pass with recs := c.pass.later, later := [], stalled := false } else { c.pass with recs := rs, stalled := false }
          let c1 := if c.round then { c with pass := p, prev := some b1 } else { c with pass := p, blk := some b1 }
          let m2 := m1.mput tile (if c.round then c1 else c1.shift)
          if rs.isEmpty then (m2.sample 0x08 (tDie tile) (some tile) none c1.pool.length).sample 0x09 (tDie tile) (some tile) none b1.slots.length else m2
/-- FIX_DRAIN_RECORD (R66). -/
def execFixDrainRecord (tile : Nat) (s : State) : Host.Outcome State Fault Refusal :=
  .next (s.on fun m => if (m.t tile).mc.pass.stalled then m else m.fixDrain tile)
/-- LONG_FORM_STALL_END: an entry or a slot is free again and the stalled record drains (R69). -/
def execLongFormStallEnd (tile : Nat) (s : State) : Host.Outcome State Fault Refusal :=
  .next (s.on fun m => if (m.t tile).mc.pass.stalled then m.fixDrain tile else m)

/-! Drain descriptors and finalisation. -/

/-- Sum of K over a block's segments. -/
def Blk.k (b : Blk) : Nat := b.segs.foldl (fun n p => n + mK p.2) 0
/-- DRAIN_DESCRIPTOR_TAKE: the drain engine reads its descriptor's records, checks it against the block and takes it (R88, R94, R227). -/
def execDrainDescriptorTake (tile : Nat) (s : State) : Host.Outcome State Fault Refusal :=
  .next (s.on fun m =>
    let c := (m.t tile).mc
    match c.prev with
    | none => m
    | some b =>
      if c.taken.isSome then m
      else match m.startHead tile 2 0x22 with
        | (none, m1) => m1
        | (some d, m1) =>
          let x := b.shape
          let xr := m1.xrec tile d.raw
          match m1.readRanges tile 2 b.ctx ([(some (homeAddr tile 0 (fld d.raw 236 215)), 64)] ++ (if bitAt xr 312 then [(some (fld xr 175 128), 128)] else [])) with
          | (none, m1) => m1
          | (some _, m1) =>
          if blockErr (m1.chk tile 2) d.raw (mA x) (mB x) b.k (mCols x) ≠ 0 then m1.descFault tile d.ctx d.addr
          else
            let m2 := m1.markStarted tile 2 d
            m2.mput tile { (m2.t tile).mc with taken := some (d.seq, d.raw) })

/-- Value rounded to a format under RNE without SAT, as a value (R98). -/
def chainRound (fmt : Nat) (v : XVal) : XVal := decodeNum fmt (roundNum fmt {} v)
/-- One bath-chain stage (Table 4.8). -/
def chainStage (fmt op n : Nat) (v y : XVal) : XVal :=
  chainRound fmt (match op with
    | 1 => xadd v y
    | 2 => xadd v (xneg y)
    | 3 => xadd y (xneg v)
    | 4 => xmul v y
    | 5 => xmax v y
    | 6 => xmin v y
    | 7 => xabs v
    | 8 => xneg v
    | 9 => scaleNum (sgn 8 n) v
    | 0xA => xclamp v y
    | 0xB => if xpos y then v else .fin false 0 0
    | _ => v)
/-- Address and format of a stage's operand for element e, or its constant (R99). -/
def chainOperand (ch fmt pitch w e : Nat) : Nat × Option Nat :=
  match fld w 7 6 with
  | 0 => (fmt, none)
  | 1 => (srcFmt ch 1, some (fld ch 431 384 + e % pitch * fmtSize (srcFmt ch 1)))
  | 2 => (srcFmt ch 2, some (fld ch 487 440 + e / pitch * fmtSize (srcFmt ch 2)))
  | _ => (srcFmt ch 3, some (fld ch 543 496 + e * fmtSize (srcFmt ch 3)))
/-- Constant CIDX of a stage. -/
def chainConst (ch w : Nat) : Nat := fld ch (256 + 32 * fld w 9 8 + 31) (256 + 32 * fld w 9 8)
/-- The chain over one output: stored bits, its format, and the CVT's magnitude pattern (R98 to R101). -/
def runChain (rd : Nat → Nat → Nat) (ch fmt pitch seed e raw : Nat) : Nat × Nat × Option Nat :=
  let step (a : XVal × Option (Nat × Nat × Option Nat)) (w : Nat) : XVal × Option (Nat × Nat × Option Nat) :=
    let op := fld w 5 0
    if op = 0x10 then
      let df := fld w 13 10
      let r : Rnd := { rc := fld w 16 14, sat := bitAt w 17, srw := fld w 19 18, seed := seed, tensor := fld ch 623 608, elem := e }
      (a.1, some (convertNum df r (sgn 8 (fld w 27 20)) a.1, df, if narrows fmt df (sgn 8 (fld w 27 20)) then some (maxPattern a.1) else none))
    else if op = 0 then a
    else
      let o := chainOperand ch fmt pitch w e
      let y := if usesY op then decodeNum o.1 (match o.2 with | some ad => rd ad (fmtSize o.1) | none => chainConst ch w) else .nan
      (chainStage fmt op (fld w 27 20) a.1 y, a.2)
  let r := ((List.range 8).map (stageOf ch)).foldl step (decodeNum fmt raw, none)
  match r.2 with
  | some z => z
  | none => (roundNum fmt {} r.1, fmt, none)
/-- Finalised value of an output with its tank's flags (R70, R75). -/
def Tank.value (rd : Nat → Nat → Nat) (pool : Tbl LForm) (xr : Nat) (t : Tank) : Epr :=
  let v := t.held rd pool xr
  { v with nan := t.flags.testBit 0, pinf := t.flags.testBit 1, ninf := t.flags.testBit 2, negz := t.flags.testBit 3 }
/-- One finalised output: its bytes, the fix unit's magnitude pattern, the CVT's, and the stored value's class (R75, R76, R97). -/
structure OutVal where
  bytes : List Byte
  maxw : Nat
  cvt : Nat
  cls : XVal
/-- Finalise one output. -/
def finishOut (rd : Nat → Nat → Nat) (pool : Tbl LForm) (x xr ch seed e : Nat) (t : Tank) : OutVal :=
  let v := t.value rd pool xr
  if dExport x then { bytes := natLE (fmtSize (dFmt x)) (v.toNat (dFmt x)), maxw := 0, cvt := 0, cls := .fin false 0 0 }
  else
    let r : Rnd := { rc := fld x 39 37, sat := bitAt x 40, srw := fld x 42 41, seed := seed, tensor := fld x 66 51, elem := e }
    let raw := convertNum (dFmt x) r (sgn 8 (fld x 50 43)) v.num
    let z := if bitAt xr 312 then runChain rd ch (dFmt x) (dPitch x) seed e raw else (raw, dFmt x, none)
    { bytes := natLE (fmtSize z.2.1) z.1, maxw := maxPattern v.num, cvt := z.2.2.getD 0, cls := decodeNum z.2.1 z.1 }
/-- Addresses the chain reads for an output. -/
def chainReads (x xr ch e : Nat) : List (Nat × Nat) :=
  if dExport x || !bitAt xr 312 then []
  else (((List.range 8).map (stageOf ch)).filter (fun w => usesY (fld w 5 0))).filterMap (fun w =>
    let o := chainOperand ch (dFmt x) (dPitch x) w e
    o.2.map (fun a => (a, fmtSize o.1)))
/-- A deferral round has run the block's whole K range, and every record of it has drained (R70, R96). -/
def Mod.roundOver (m : Mod) (tile : Nat) : Bool :=
  let p := (m.t tile).mc.pass
  !p.running && p.half.isEmpty && p.src.isEmpty && p.recs.isEmpty && p.later.isEmpty && (m.replayDesc tile).isNone
    && (m.e tile 0).buf.all (fun d => decide (d.seq < 2 ^ 60))
/-- A block's wide area holds nothing defined once the block is over (R68). -/
def Mod.loseWide (m : Mod) (tile : Nat) (b : Blk) (xr : Nat) : Mod :=
  match b.wideArea xr with | some (a, n) => m.undefine tile a n | none => m
/-- The wide areas of an M-core whose work is broken off (R68, R91). -/
def Mod.abandonWide (m : Mod) (tile : Nat) : Mod :=
  match (m.t tile).wideArea (m.xrec tile) with | some (a, n) => m.undefine tile a n | none => m
/-- Finalise the outputs of the block in hand that are not deferred; start a deferral round for the rest (R70, R95 to R97). The rows go to
the store engine, which writes them (R90, R95). -/
def Mod.finalise (m : Mod) (tile : Nat) : Mod :=
  let c := (m.t tile).mc
  match c.prev, c.taken with
  | some b, some (seq, x) =>
    if c.round && !m.roundOver tile then m
    else
      let s := b.shape
      let xr := m.xrec tile x
      let rd0 := (m.chk tile 2).rd
      let ch := if bitAt xr 312 then rd0 (fld xr 175 128) 128 else 0
      let seed := (m.cx b.ctx).seed
      let outs := ((List.range (mRows s)).flatMap (fun r => (List.range (mCols s)).map (fun k => (r, k)))).filter (fun p =>
        (tget {} b.tanks (64 * p.1 + p.2)).mode != 3 && !b.written.contains (64 * p.1 + p.2))
      let el (p : Nat × Nat) : Nat := dEbase x + p.1 * dPitch x + p.2
      let tank (p : Nat × Nat) : Tank := tget {} b.tanks (64 * p.1 + p.2)
      let reads := outs.flatMap (fun p => (if (tank p).mode = 2 then [(slotAddr xr (tank p).idx, 544)] else []) ++ chainReads x xr ch (el p))
      match m.readRanges tile 2 b.ctx (reads.map (fun a => (some a.1, a.2))) with
      | (none, m1) => m1
      | (some _, m) =>
        let rd := (m.chk tile 2).rd
        let vals : List ((Nat × Nat) × OutVal) := outs.map (fun p => (p, finishOut rd c.pool x xr ch seed (el p) (tank p)))
        let size := fmtSize (if dExport x then dFmt x else dStored x xr ch)
        let m2 := vals.foldl (fun m p => m.issue tile 3 seq b.ctx (fld x 194 147 + p.1.1 * fld x 214 195 + p.1.2 * size) p.2.bytes) m
        let cnt (f : XVal → Bool) : Nat := (vals.filter (fun (p : (Nat × Nat) × OutVal) => f p.2.cls)).length
        let b1 : Blk := { b with
          maxw := vals.foldl (fun a p => max a p.2.maxw) b.maxw, cvtMaxw := vals.foldl (fun a p => max a p.2.cvt) b.cvtMaxw,
          nan := b.nan + cnt XVal.isNaN, pinf := b.pinf + cnt (fun v => v == .inf false), ninf := b.ninf + cnt (fun v => v == .inf true),
          written := b.written ++ outs.map (fun p => 64 * p.1 + p.2), slots := [] }
        if (b.tanks.any (fun p => p.2.mode == 3)) then
          -- a deferral round: fresh tanks for the deferred outputs, the operands read again
          let b2 : Blk := { b1 with rounds := b1.rounds + 1, closed := false, tanks := (b1.tanks.filter (fun p => p.2.mode == 3)).map (fun p => (p.1, {})) }
          let inPlace := fld xr 311 304 = 0
          let c2 : MCore := { c with pool := c.pool.filter (fun p => p.2.bank != b.bank), prev := some b2, round := true, replay := 0, held := (if c.round then c.held else some c.pass),
                                     pass := { src := if inPlace then b.segs else [] } }
          let m3 := m2.mput tile c2
          let pause (m : Mod) (q : Nat) : Mod := m.eput tile q { m.e tile q with paused := true }
          if inPlace then m3 else pause (pause m3 0) 1
        else
          let m3 := if dExport x then m2 else m2.update 0 (fld xr 47 0) b1.maxw b.ctx tile 2
          let cvt := if !dExport x && bitAt xr 312 then cvtOf ch else none
          let m4 := match cvt with
            | some w => if narrows (dFmt x) (fld w 13 10) (sgn 8 (fld w 27 20)) then m3.update 0 (fld ch 607 560) b1.cvtMaxw b.ctx tile 2 else m3
            | none => m3
          let m5 := if bitAt xr 314 && !dExport x then
              ((m4.update 1 (fld xr 111 64) b1.nan b.ctx tile 2).update 1 (fld xr 111 64 + 4) b1.pinf b.ctx tile 2).update 1 (fld xr 111 64 + 8) b1.ninf b.ctx tile 2
            else m4
          let m5 := m5.loseWide tile b xr
          let m6 := (m5.sample 0x0A (tDie tile) (some tile) (some b.ctx) b1.rounds).latency 0x06 (tDie tile) (some tile) (some b.ctx)
          let c6 := (m6.t tile).mc
          let m7 := m6.mput tile ({ c6 with pool := c6.pool.filter (fun p => p.2.bank != b.bank), prev := none, taken := none, fin := c6.fin ++ [seq], round := false, held := none,
                                            pass := if c.round then c.held.getD {} else c6.pass } : MCore).shift
          let m8 := (b.segs.filter (fun p => mHold p.2)).foldl (fun m p => m.finish tile 1 p.1) m7
          let go (m : Mod) (q : Nat) : Mod := m.eput tile q { m.e tile q with paused := false }
          if c.round then go (go m8 0) 1 else m8
  | _, _ => m
/-- FINALISE_BLOCK (R70). -/
def execFinaliseBlock (tile : Nat) (s : State) : Host.Outcome State Fault Refusal := .next (s.on fun m => m.finalise tile)
/-- DRAIN_WRITES_DONE: the last output write is complete at core scope, and the drain descriptor signals (R89). -/
def execDrainWritesDone (tile : Nat) (s : State) : Host.Outcome State Fault Refusal :=
  .next (s.on fun m =>
    let c := (m.t tile).mc
    match c.fin with
    | [] => m
    | seq :: rest => (m.mput tile { c with fin := rest }).finish tile 2 seq)

end Sys2Proof.Machine
end

