-- ==== Sys2Proof/Machine/GroomerBase.lean ====
section
/-! DEFINITION. Groomer data: state blocks, the hash, schedule entries, rule programs, the checks of entries, and the position
(R262 to R269, R274 to R280, R295). -/

namespace Sys2Proof.Machine

/-! The hash and state blocks. -/

/-- The prime and the base of H (R265). -/
def hashP : Nat := 0xFFFFFFFFFFFFFFC5
def hashB : Nat := 0x5A3C96E10D4B7F29
/-- H(d0; words) (R265). -/
def hashH (d0 : Nat) (ws : List Nat) : Nat := ws.foldl (fun d x => (d * hashB + x % hashP) % hashP) d0
/-- The 64-bit words of a block. -/
def blkWords (bs : List Byte) : List Nat := (chunks 8 bs).map leNat
/-- Check code of a block (R264). -/
def blkCheck (bs : List Byte) : Nat :=
  match blkWords bs with
  | w0 :: _ :: ws => hashH 1 (w0 :: ws)
  | _ => 0
/-- The block's check code holds (R292). -/
def blkOk (bs : List Byte) : Bool := blkCheck bs == leNat ((bs.drop 8).take 8)
/-- STEP and HELD of a block's tag (R263). -/
def blkStep (bs : List Byte) : Nat := leNat (bs.take 6)
def blkHeld (bs : List Byte) : Bool := bitAt (leNat ((bs.drop 6).take 2)) 0
/-- Word k of slot i: 0 HI, 1 LO, 2 M, 3 V (R262). -/
def blkSlot (bs : List Byte) (i k : Nat) : Nat := leNat ((bs.drop (16 + 16 * i + 4 * k)).take 4)
/-- Replace slot i. -/
def blkPut (bs : List Byte) (i : Nat) (hi lo mm v : Nat) : List Byte :=
  bs.take (16 + 16 * i) ++ natLE 4 hi ++ natLE 4 lo ++ natLE 4 mm ++ natLE 4 v ++ bs.drop (32 + 16 * i)
/-- Give a block its tag and check code (R263, R264, R286). -/
def blkSeal (bs : List Byte) (step : Nat) (held : Bool) : List Byte :=
  let b := natLE 6 step ++ natLE 2 (b2n held) ++ List.replicate 8 0 ++ bs.drop 16
  b.take 8 ++ natLE 8 (blkCheck b) ++ b.drop 16

/-! Schedule entries (Table 11.5). -/
def gState (x : Nat) : Nat := fld x 47 0
def gN (x : Nat) : Nat := fld x 103 64
def gBlocks (x : Nat) : Nat := ceilDiv (gN x) 15
def gWc (x : Nat) : Nat := fld x 175 128
def gEbase (x : Nat) : Nat := fld x 239 192
def gMatrix (x : Nat) : Bool := bitAt x 288
def gCheck (x : Nat) : Nat := fld x 290 289
def gChan (x : Nat) : Nat := fld x 319 304
def gEvery (x : Nat) : Nat := fld x 367 352
def gDigest (x : Nat) : Nat := fld x 383 368
def gShard (x : Nat) : Nat := fld x 399 384
def gRule (x : Nat) : Nat := fld x 495 448
def gHold (x : Nat) : Nat := fld x 751 704
def gMom (x : Nat) : Nat := fld x 815 768
def gOut (x : Nat) : Nat := fld x 879 832

/-! Rule programs (R274 to R278). -/

/-- Word i of program A (0 to 15) or B (16 to 31), and constant i of a rule record. -/
def ruleWord (r i : Nat) : Nat := fld r (32 * i + 31) (32 * i)
def ruleConst (r i : Nat) : Nat := fld r (1024 + 32 * i + 31) (1024 + 32 * i)
/-- A word the loader rejects (R275, R278). -/
def ruleBadWord (w : Nat) : Bool :=
  let op := fld w 5 0
  !(decide (op ≤ 0xB) || (decide (0x18 ≤ op) && decide (op ≤ 0x1D))) || (op == 0 && w != 0) || fld w 19 17 != 0 || fld w 31 28 != 0
    || (op != 9 && fld w 27 20 != 0) || (!bitAt w 12 && decide (7 < fld w 16 13))
/-- One instruction of a rule program over z0 to z7 (R276). -/
def ruleStep (r : Nat) (z : List XVal) (w : Nat) : List XVal :=
  if w = 0 then z
  else
    let op := fld w 5 0
    let d := fld w 8 6
    let v := nth .nan z (fld w 11 9)
    let y := if bitAt w 12 then decodeNum 3 (ruleConst r (fld w 16 13)) else nth .nan z (fld w 16 13)
    lset z d (match op with
      | 0x18 => chainRound 3 (xadd (xmul v y) (nth .nan z d))
      | 0x19 => chainRound 3 (xdiv v y)
      | 0x1A => chainRound 3 (xsqrt v)
      | 0x1B => chainRound 3 (xrsqrt v)
      | 0x1C => chainRound 3 (xrcp v)
      | 0x1D => y
      | _ => chainStage 3 op (fld w 27 20) v y)
/-- Run program A (b false) or B over the registers. -/
def ruleRun (r : Nat) (b : Bool) (z : List XVal) : List XVal :=
  ((List.range 16).map (fun i => ruleWord r (if b then 16 + i else i))).foldl (ruleStep r) z
/-- The registers at the start of a program (R277). -/
def ruleRegs (z0 z1 v hi : XVal) : List XVal := [z0, z1, v, hi] ++ List.replicate 4 (.fin false 0 0)
/-- The master's two parts after an update (R279). -/
def gMaster (hi lo delta : XVal) : Nat × Nat :=
  let s := xadd (xadd hi lo) delta
  let h := roundNum 3 {} s
  match s with
  | .fin .. => (h, roundNum 3 {} (xadd s (xneg (decodeNum 3 h))))
  | _ => (h, h)
/-- Update of slot i by a program's results (R277, R279). -/
def gSlot (bs : List Byte) (i : Nat) (z : List XVal) : List Byte :=
  let m := gMaster (decodeNum 3 (blkSlot bs i 0)) (decodeNum 3 (blkSlot bs i 1)) (nth .nan z 7)
  blkPut bs i m.1 m.2 (roundNum 3 {} (nth .nan z 1)) (roundNum 3 {} (nth .nan z 2))
/-- Program A on slot i with gradient g. -/
def gProgA (r : Nat) (bs : List Byte) (i : Nat) (g : XVal) : List XVal :=
  ruleRun r false (ruleRegs g (decodeNum 3 (blkSlot bs i 2)) (decodeNum 3 (blkSlot bs i 3)) (decodeNum 3 (blkSlot bs i 0)))
/-- Seed of a step's stochastic roundings (R269). -/
def stepSeed (seed step : Nat) : Nat := (mix (BitVec.ofNat 64 (seed ^^^ step))).toNat
/-- Working copy of parameter n from its master, with the magnitude it records (R280). -/
def gCopy (x seed step n : Nat) (bs : List Byte) (i : Nat) : Nat × Nat :=
  let v := xadd (decodeNum 3 (blkSlot bs i 0)) (decodeNum 3 (blkSlot bs i 1))
  let r : Rnd := { rc := fld x 274 272, srw := fld x 276 275, seed := stepSeed seed step, tensor := fld x 271 256, elem := gEbase x + n }
  (roundNum 0 r v, maxPattern v)

/-! Checks of entries and rule records (Table 11.16). -/

/-- An aligned area lies in scratchpad of die d, in resident tiles where that is asked. -/
def gArea (res : Nat → Bool) (d a n al : Nat) (resident : Bool) : Bool :=
  a % al == 0 && inSpOf d a n && (!resident ||
    (List.range ((a + n - 1 - spBase) / 0x400000 + 1 - (a - spBase) / 0x400000)).all (fun k => res ((a - spBase) / 0x400000 + k)))
/-- Reserved bits of a Groomer record (Table 11.4); bits [63:48] of SCHED, which it gives as [47:0], are taken as reserved (log entry 108). -/
def gRecReserved (r : Nat) : Bool := fld r 63 48 != 0 || fld r 511 104 != 0
/-- Reserved bits of a schedule entry (Table 11.5). Bits [63:48] of an address field given as [47:0] are taken as reserved (DESIGN CHOICE,
log entry 108). -/
def gReserved (x : Nat) : Bool :=
  [(63, 48), (127, 104), (191, 176), (255, 240), (279, 277), (295, 291), (303, 296), (447, 400), (511, 496), (575, 560), (639, 624),
   (703, 688), (767, 752), (831, 816), (895, 880), (959, 944)].any (fun p => fld x p.1 p.2 != 0)
/-- Code of a rule record that breaks Table 11.16, or 0; a reserved field that is not zero has the table's code for reserved fields. -/
def ruleErr (rd : Nat → Nat → Nat) (d a : Nat) (matrix : Bool) : Nat :=
  let r := rd a 256
  firstErr [
    (!gArea (fun _ => true) d a 256 64 false, 0x0115),
    (fld r 2047 1536 != 0, 0x0113),
    ((List.range 32).any (fun i => ruleBadWord (ruleWord r i)) || (!matrix && (List.range 16).any (fun i => ruleWord r (16 + i) != 0)), 0x0115)]
/-- Code of a schedule entry that breaks Table 11.16 by itself, or 0. -/
def entryErr (res : Nat → Bool) (d x : Nat) : Nat :=
  let n := gN x
  let bound := decodeNum 3 (fld x 351 320)
  let okBound := match bound with | .fin neg m _ => !neg && m != 0 | _ => false
  let rnd := fld x 274 272
  let need := gMatrix x || gCheck x != 0
  firstErr [
    (gReserved x || n == 0 || gCheck x == 3 || decide (5 < rnd) || (rnd == 5 && fld x 623 576 == 0), 0x0113),
    (!inLp (gState x) (256 * gBlocks x) || gState x % 256 != 0 || !(inHbm (gWc x) (2 * n) || inSp (gWc x) (2 * n)) || gWc x % 2 != 0
      || fld x 559 512 % 4 != 0 || fld x 623 576 % 4 != 0 || fld x 687 640 % 16 != 0 || (gCheck x == 2 && !okBound), 0x0114),
    (need && (decide (2 ^ 24 < n) || !gArea res d (gHold x) (4 * n) 64 true), 0x0116),
    (gMatrix x && (!gArea res d (gMom x) (4 * n) 4 true || !gArea res d (gOut x) (4 * n) 4 true
      || !gArea res d (goOf x) 4 4 false || fld x 991 960 * fld x 1023 992 != n), 0x0116)]

/-! The record, the position, and entries as the Groomer reads them. -/

/-- Groomer record of a die (Table 11.4). -/
def Mod.gRec (m : Mod) (d : Nat) : Nat := tget 0 m.img.groomer d
def Mod.gEntries (m : Mod) (d : Nat) : Nat := fld (m.gRec d) 79 64
/-- Schedule entry e as it stands in memory. -/
def Mod.gEntry (m : Mod) (d e : Nat) : Nat := m.rdn (fld (m.gRec d) 47 0 + 128 * e) 128
/-- Position (T, E) (R268, Table 14.11). -/
def Mod.gPos (m : Mod) (d : Nat) : Nat × Nat :=
  let hi := m.rg (0x800004 + 16 * d)
  (m.rg (0x800000 + 16 * d) + 2 ^ 32 * fld hi 15 0, fld hi 27 16)
def Mod.gSetPos (m : Mod) (d t e : Nat) : Mod :=
  (m.rput (0x800000 + 16 * d) (t % 2 ^ 32)).rput (0x800004 + 16 * d) (fld t 47 32 + 2 ^ 16 * (e % 4096))
/-- The Groomer is halted (R290). -/
def Mod.gHalted (m : Mod) (d : Nat) : Bool := bitAt (m.rg 0x800048) d
/-- Abort the command a Groomer works for (Table 11.15). -/
def Mod.gFault (m : Mod) (d c reason a : Nat) : Mod := m.cmdFault c reason (a % 2 ^ 48 + d * 2 ^ 48)
/-- Empty the state window and drop the gradients that are being received (R268, R271, R321). -/
def Mod.gDrop (m : Mod) (d : Nat) : Mod := m.gput d { m.g d with win := [], inq := [], cur := none }
/-- The Groomer of die d reads memory for its command, under its own number; its requests are not checked at the tile (R140, R269). -/
def Mod.gGet (m : Mod) (d c a n : Nat) : Option (List Byte) × Mod := m.fetch (groomerId d) c a n
/-- The rule record of an entry is read and checked at the start of a phase that uses it (R274, R295). -/
def Mod.gReadRule (m : Mod) (d c x : Nat) : Option Nat × Mod :=
  let a := gRule x
  if !gArea (fun _ => true) d a 256 64 false then (none, m.gFault d c 0x080E a)
  else match m.gGet d c a 256 with
    | (none, m1) => (none, m1)
    | (some bs, m1) => if ruleErr (fun _ _ => leNat bs) d a (gMatrix x) ≠ 0 then (none, m1.gFault d c 0x080E a) else (some (leNat bs), m1)
/-- Schedule entry e is read and checked (R267, R295). -/
def Mod.gReadEntry (m : Mod) (d c e : Nat) : Option Nat × Mod :=
  let a := fld (m.gRec d) 47 0 + 128 * e
  match m.gGet d c a 128 with
  | (none, m1) => (none, m1)
  | (some bs, m1) => if entryErr m1.resident d (leNat bs) ≠ 0 then (none, m1.gFault d c 0x080E a) else (some (leNat bs), m1)
/-- Entry e becomes the one that receives gradients (R267, R295). Its rule record is read where gradients pass through program A as they
arrive: not for a checked element-wise entry, which fills its hold first, nor for a halted one (R274, R282, R285, R290). -/
def Mod.gStart (m : Mod) (d c t e form : Nat) : Mod :=
  match m.gReadEntry d c e with
  | (none, m1) => m1
  | (some x, m1) =>
    let uses := (gMatrix x || gCheck x == 0) && !m1.gHalted d
    match (if uses then m1.gReadRule d c x else (some 0, m1)) with
    | (none, m2) => m2
    | (some rule, m2) =>
      let m3 := if gMatrix x then m2.latency 0x12 d none (some c) else m2
      m3.gput d { m3.g d with form := form, cur := some { entry := e, step := t, ctx := c, raw := x, rule := rule } }
/-- The position moves: what was being received is dropped, and what was noted of another step with it (R268, R287, R290). -/
def Mod.gMove (m : Mod) (d t e : Nat) : Mod :=
  let m1 := m.gDrop d
  let m2 := if t = (m.gPos d).1 then m1 else m1.gput d { m1.g d with partialStep := false, mismatch := false }
  m2.gSetPos d t e
/-- A collective that targets a Groomer is handled (R268): the first of its command may move the position; another that names neither
the position nor a later entry of its step aborts the command. -/
def Mod.gPlace (m : Mod) (d c t e : Nat) : Mod :=
  let first := match m.run? c with | some r => !r.fed.contains d | none => false
  let m1 := m.runMap c (fun r => { r with fed := if r.fed.contains d then r.fed else d :: r.fed })
  let p := m1.gPos d
  if t = p.1 ∧ p.2 ≤ e then m1
  else if first then m1.gMove d t e
  else m1.gFault d c 0x080D 0
/-- The Groomer can begin the entry now: it is the position, nothing is being received, the step before is closed, and at most three
matrix entries are past phase 1's gradients and without their go word before a fourth (R268, R283). -/
def Mod.gCanStart (m : Mod) (d t e : Nat) : Bool :=
  let g := m.g d
  m.gPos d == (t, e) && g.cur.isNone && g.closing.isNone
    && (!gMatrix (m.gEntry d e) || decide ((g.mats.filter (fun k => gMatrix k.raw && (k.phase == 1 || k.phase == 3))).length < 4))

end Sys2Proof.Machine
end

