-- ==== Sys2Proof/Machine/Fabric.lean ====
section
/-! DEFINITION. Tokens, routers, endpoints, steering units, slides in use, the carousel and commit tokens (R156 to R191). -/

namespace Sys2Proof.Machine

/-! Slides in use. -/

/-- Step i of the program held in slide h (Table 7.10). -/
def Tile.prog' (t : Tile) (h i : Nat) : Nat := t.sl h (256 + 4 * i) 4
/-- The program in slide h names slide e in a SLIDE step (R161). -/
def Tile.names (t : Tile) (h e : Nat) : Bool :=
  (List.range 32).any (fun i => fld (t.prog' h i) 1 0 == 0 && fld (t.prog' h i) 4 2 == e)
/-- The staged home slides: INACTIVE slides that carry HOME (R186). -/
def Tile.staged (t : Tile) : List Nat := (List.range 8).filter (fun e => t.slState e == 2 && bitAt (t.sl e 0 1) 0)
/-- The staged home slide. -/
def Tile.stagedHome (t : Tile) : Nat := nth 0 t.staged 0
/-- A commit is pending at the tile. -/
def Tile.pendingHere (t : Tile) : Bool := match t.commit with | some c => c.arrived | none => false
/-- A slide's route table is usable (R162). -/
def Tile.usable (t : Tile) (e : Nat) : Bool :=
  t.slState e == 1 || (t.slState e == 2 && t.pendingHere && t.names t.stagedHome e)
/-- Route entry r of slide e (Tables 7.4, 7.8). -/
def Tile.route (t : Tile) (e r : Nat) : Nat := t.sl e (1024 + 8 * r) 8
/-- The valid entries of slide e. -/
def Tile.routes (t : Tile) (e : Nat) : List Nat := ((List.range 256).map (t.route e)).filter (fun r => bitAt r 28)
def rStream (r : Nat) : Nat := fld r 12 0
def rInput (r : Nat) : Nat := fld r 15 13
def rQueue (r : Nat) : Nat := fld r 18 16
def rAction (r : Nat) : Nat := fld r 21 19
def rOut (r : Nat) : Nat := fld r 24 22
def rNext (r : Nat) : Nat := fld r 27 25
/-- The entry for an input and a stream. -/
def Tile.entry (t : Tile) (e input stream : Nat) : Option Nat :=
  (t.routes e).find? (fun r => rInput r == input && rStream r == stream)
/-- Local queue of a stream in the current slide (R171, R173). -/
def Tile.localQ (t : Tile) (stream : Nat) : Option Nat := (t.entry t.cur 4 stream).map (fun r => 32 + rQueue r)
/-- Steering-unit word u of slide e (Table 7.9). -/
def Tile.unit (t : Tile) (e u : Nat) : Nat := t.sl e (128 + 16 * u) 16
def uKind (w : Nat) : Nat := fld w 2 0
def uCq (w : Nat) : Nat := fld w 8 3
def uDq0 (w : Nat) : Nat := fld w 14 9
def uDq1 (w : Nat) : Nat := fld w 20 15
def uOuts (w : Nat) : List Nat := [fld w 36 24, fld w 49 37, fld w 62 50, fld w 75 63].take (fld w 22 21 + 1)
/-- Input queues of a unit. -/
def uIns (w : Nat) : List Nat :=
  match uKind w with | 1 | 4 => [uCq w, uDq0 w] | 2 => [uCq w, uDq0 w, uDq1 w] | 3 => [uDq0 w] | _ => []

/-! Queues. -/

def Tile.q (t : Tile) (i : Nat) : List Token := tget [] t.queues i
def Tile.setQ (t : Tile) (i : Nat) (l : List Token) : Tile := { t with queues := if l.isEmpty then tdel t.queues i else tset t.queues i l }
/-- The queue has a free place (R163). -/
def Tile.room (t : Tile) (tile i : Nat) : Bool := decide ((t.q i).length < queueCap tile i)
/-- A queue holds a token of an epoch. -/
def Tile.holds (t : Tile) (e : Nat) : Bool := t.queues.any (fun p => p.2.any (fun k => k.epoch == e))
/-- A queue's head waits in an epoch stall (R165). -/
def Tile.stalledQ (t : Tile) (qid : Nat) (k : Token) : Bool :=
  if !t.usable k.epoch then true
  else match t.entry k.epoch (qid / 8) k.stream with
    | some r => rAction r != 0 && k.epoch != t.cur
    | none => false
/-- EPOCH_STALL of a tile (R165, R181). -/
def Tile.stalled (t : Tile) : Bool :=
  t.changing.isNone && t.queues.any (fun p => match p.2 with | k :: _ => t.stalledQ p.1 k | [] => false)
/-- Recompute EPOCH_STALL. -/
def Mod.restall (m : Mod) (tile : Nat) : Mod := m.tput tile { m.t tile with stall := (m.t tile).stalled }
/-- The context whose command a tile works for. -/
def Mod.ctxAt (m : Mod) (tile : Nat) : Nat := ((m.die (tDie tile)).ctx).getD 65535

/-! The carousel (R177 to R183). -/

/-- Follow LOOP steps to a SLIDE step (R178). -/
def Tile.resolve (t : Tile) : Nat → Tbl Nat → Nat → Nat × Tbl Nat
  | 0, l, i => (i, l)
  | f + 1, l, i =>
    let w := t.prog' t.home i
    if fld w 1 0 = 1 then
      if tget 0 l i < fld w 31 16 then t.resolve f (tset l i (tget 0 l i + 1)) (fld w 6 2)
      else t.resolve f (tset l i 0) (i + 1)
    else (i, l)
/-- Signals of the carousel descriptors that have taken effect: the slide the carousel was sent to is current (R182). What becomes of the
signal of a descriptor that another has overtaken, and of one that waits for its slide when the tile switches, the spec does not say:
DESIGN CHOICE, it is performed with the later one's, or when the switch's change ends (log entry 93). -/
def Mod.carSignals (m : Mod) (tile : Nat) : Mod :=
  let ss := (m.t tile).sigs
  ss.foldl (fun m p => m.finish tile p.1 p.2) (m.tput tile { m.t tile with sigs := [] })
/-- The carousel goes to a step: its slide is current at once, or is waited for (R178, R179). -/
def Mod.carGo (m : Mod) (tile i : Nat) : Mod :=
  let t := m.t tile
  let r := t.resolve 4096 t.loops i
  let e := fld (t.prog' t.home r.1) 4 2
  let t1 := { t with step := r.1, loops := r.2, left := 0 }
  if e = t.cur then (m.tput tile { t1 with want := none }).carSignals tile
  else m.tput tile { t1 with want := some e }
/-- The carousel takes no further step once a pending commit's fence is complete (R189). -/
def Tile.frozen (t : Tile) : Bool := match t.commit with | some c => c.fence | none => false
/-- The carousel stands at a TOKENS step (R178). -/
def Tile.counting (t : Tile) : Bool :=
  let w := t.prog' t.home t.step
  t.want.isNone && t.changing.isNone && fld w 1 0 == 0 && fld w 6 5 == 1
/-- A TOKENS step whose tokens have left is complete; in a quiescent region the carousel takes no step (R178, R360). -/
def Mod.carDue (m : Mod) (tile : Nat) : Mod :=
  let t := m.t tile
  if t.counting && !t.frozen && !m.quietTile tile && decide (fld (t.prog' t.home t.step) 31 16 ≤ t.left) then m.carGo tile (t.step + 1) else m
/-- A token has left a queue: a TOKENS step counts it (R178). -/
def Mod.leave (m : Mod) (tile qid : Nat) : Mod :=
  let t := m.t tile
  if t.counting && fld (t.prog' t.home t.step) 12 7 == qid then (m.tput tile { t with left := t.left + 1 }).carDue tile else m
/-- A carousel descriptor takes effect: STEP, queue and number (R182). -/
def Mod.carTake (m : Mod) (tile : Nat) (x : Nat × Nat × Nat) : Mod :=
  let t := m.t tile
  (m.tput tile { t with sigs := t.sigs ++ [(x.2.1, x.2.2)] }).carGo tile x.1
/-- Carousel descriptors that were held take effect in order, and a step whose tokens have left ends, outside a change and a quiescent
region (R178, R182, R360). -/
def Mod.carResume (m : Mod) (tile : Nat) : Mod :=
  let t := m.t tile
  if t.changing.isSome || t.frozen || m.quietTile tile then m
  else (t.steps.foldl (fun m x => m.carTake tile x) (m.tput tile { t with steps := [] })).carDue tile

/-- SLIDE_CHANGE_START: the wanted slide is valid and no queue holds a token of the current epoch (R179, R180). -/
def execSlideChangeStart (tile : Nat) (s : State) : Host.Outcome State Fault Refusal :=
  .next (s.live fun m =>
    let t := m.t tile
    match t.want with
    | some e =>
      if t.changing.isNone && t.slState e != 0 && !t.holds t.cur && !t.frozen && !m.quietTile tile then
        (m.tput tile { t with changing := some e, want := none }).restall tile
      else m
    | none => m)

/-! Commit tokens (R188 to R190). -/

/-- Streams the tile consumes in any ACTIVE slide. -/
def Tile.consumes (t : Tile) : List Nat :=
  ((List.range 8).filter (fun e => t.slState e == 1)).flatMap (fun e => ((t.routes e).filter (fun r => rAction r != 0)).map rStream)
/-- Source endpoints of the current slide, with their streams. -/
def Tile.sources (t : Tile) : List (Nat × Nat) :=
  ((List.range 8).filter (fun k => t.binds t.cur k true)).map (fun k => (k, fld (t.ep t.cur k) 12 0))
/-- Streams that the I/O die's endpoints produce at a port tile of columns 0 and 1, with their queues: the external side closes them
(R163, R189). -/
def Tile.outside (t : Tile) (tile : Nat) : List (Nat × Nat) :=
  if tRow tile = 0 ∧ tCol tile ≤ 1 then ((t.routes t.cur).filter (fun r => rInput r == 0)).map (fun r => (rStream r, rQueue r)) else []
/-- What emits a commit token once the fence is complete: a number, the stream and its queue, for every source endpoint k (number k) and
every stream of the external side (number 8 + stream). The fence of the I/O die's endpoints is that of their port tile: DESIGN CHOICE (log
entry 95). -/
def Tile.emitters (t : Tile) (tile : Nat) : List (Nat × Nat × Option Nat) :=
  t.sources.map (fun (p : Nat × Nat) => (p.1, p.2, t.localQ p.2)) ++ (t.outside tile).map (fun (p : Nat × Nat) => (8 + p.1, p.1, some p.2))
/-- A commit token (R189). -/
def commitTok (stream epoch c : Nat) : Token := ⟨natLE 4 c ++ List.replicate 60 0, stream, epoch, true⟩
/-- The fence is complete once every consumed stream has delivered its commit token; each emitter then emits one, when its queue has a
place (R189). A commit that arrives during a slide change completes its fence only after the change (DESIGN CHOICE, log entry 110). -/
def Tile.commitStep (t : Tile) (tile : Nat) : Tile :=
  match t.commit with
  | none => t
  | some c =>
    if c.arrived && t.consumes.all (fun s => c.got.contains s) && t.changing.isNone then
      let t1 := { t with commit := some { c with fence := true } }
      (t1.emitters tile).foldl (fun t p =>
        match t.commit, p.2.2 with
        | some c, some q =>
          if !c.sent.contains p.1 && t.room tile q then
            { t.setQ q (t.q q ++ [commitTok p.2.1 t.cur c.c]) with commit := some { c with sent := c.sent ++ [p.1] } }
          else t
        | _, _ => t) t1
    else t
/-- Record a delivered commit token. -/
def Tile.gotCommit (t : Tile) (stream : Nat) : Tile :=
  match t.commit with
  | some c => { t with commit := some { c with got := linsert stream c.got } }
  | none => t
/-- The tile's commit conditions for a switch (R190). -/
def Tile.maySwitch (t : Tile) (tile : Nat) : Bool :=
  match t.commit with
  | none => false
  | some c =>
    c.arrived && c.fence && t.changing.isNone && (t.emitters tile).all (fun p => c.sent.contains p.1)
    && (List.range 8).all (fun e => t.slState e != 1 || !t.holds e)
/-- Slot tables of a slide as the memory tile's banks take them (R176); the clock of a tile with a reserved entry runs in NAP (R147). -/
def Tile.loadSlots (t : Tile) (tile e : Nat) : Tile :=
  if kindOf tile = .mem then
    let t1 : Tile := { t with slot := (mrange t.frames (4096 * e + 3072) 128).map (fun p => (p.1 - (4096 * e + 3072), p.2)) }
    if t1.reservesAny then { t1 with gated := false, ungating := false } else t1
  else t
/-- States of the valid slides as the home slide's program gives them: it, the slides its program names and one slide more are ACTIVE, the
others INACTIVE (Table 7.2, R161). -/
def Tile.activate (t : Tile) (also : Nat) : Tile :=
  { t with slide := (List.range 8).filterMap (fun e =>
      if t.slState e = 0 then none else some (e, if e = t.home ∨ e = also ∨ t.names t.home e then 1 else 2)) }
/-- The switch: staged home, ACTIVE and INACTIVE states, step 0, the 64-cycle change (R190). -/
def Tile.switch (t : Tile) (tile : Nat) : Tile :=
  let h := t.stagedHome
  let t1 := ({ t with home := h, commit := none, step := 0, loops := [], left := 0, want := none, steps := [] } : Tile).activate h
  let r := t1.resolve 4096 [] 0
  let e := fld (t1.prog' h r.1) 4 2
  { t1.loadSlots tile e with step := r.1, loops := r.2, changing := some e }

/-! Endpoints (R170, R171). -/

/-- Bytes a source descriptor still has to emit leave as tokens while its queue has places and the tile is not in a change. -/
def Mod.emitDesc (m : Mod) (tile : Nat) (d : Desc) : Nat → Mod
  | 0 => m
  | f + 1 =>
    let t := m.t tile
    match (m.e tile 3).buf.find? (fun x => x.seq == d.seq) with
    | none => m
    | some d =>
      let k := tDst d.raw % 8
      let quiet := match t.commit with | some c => c.sent.contains k | none => false
      if d.data.isEmpty || t.changing.isSome || quiet || !t.binds t.cur k true then m
      else
        let st := fld (t.ep t.cur k) 12 0
        match t.localQ st with
        | none => m.cmdFault d.ctx 0x080A (st + tile * 2 ^ 48)
        | some q =>
          if t.room tile q then
            let bs := d.data.take 64
            let m1 := m.tput tile (t.setQ q (t.q q ++ [⟨bs ++ List.replicate (64 - bs.length) 0, st, t.cur, false⟩]))
            let m2 := m1.eput tile 3 ((m1.e tile 3).setDesc { d with data := d.data.drop 64 })
            m2.emitDesc tile d f
          else m
/-- Every source endpoint emits for its oldest descriptor that still has bytes. -/
def Mod.emit (m : Mod) (tile : Nat) : Mod :=
  let m0 := m.tput tile ((m.t tile).commitStep tile)
  let m1 := (List.range 8).foldl (fun m k =>
    (((m.e tile 3).buf.filter (fun d => d.started && hKind d.raw == 0x10 && tDm d.raw == 2 && tDst d.raw % 8 == k))).foldl
      (fun m d => if ((m.e tile 3).buf.filter (fun x => x.started && hKind x.raw == 0x10 && tDm x.raw == 2 && tDst x.raw % 8 == k
        && decide (x.seq < d.seq) && !x.data.isEmpty)).isEmpty then m.emitDesc tile d 128 else m) m) m0
  (m1.tput tile ((m1.t tile).commitStep tile)).restall tile
/-- A sink takes a token for the oldest sink descriptor of its endpoint; none where no descriptor waits for it. -/
def Mod.sink (m : Mod) (tile k : Nat) (tok : Token) : Option Mod :=
  match (m.e tile 0).buf.find? (fun d => d.started && hKind d.raw == 0x10 && tSm d.raw == 2 && tSrc d.raw % 8 == k && decide (d.off < tLen d.raw)) with
  | none => none
  | some d =>
    let bs := tok.data.take (Nat.min 64 (tLen d.raw - d.off))
    let m1 := m.eput tile 0 ((m.e tile 0).setDesc { d with off := d.off + bs.length, data := if tDm d.raw = 3 then d.data ++ bs else d.data })
    some (if tDm d.raw = 3 then m1 else m1.putDst tile 0 d d.off bs)

/-- Remove the head of a queue. -/
def Mod.popQ (m : Mod) (tile qid : Nat) : Mod := m.tput tile ((m.t tile).setQ qid (((m.t tile).q qid).drop 1))
/-- The head of a queue acts (R164 to R171, R185, R189). A commit token at a sink of a tile whose own commit has not arrived waits at the head
(DESIGN CHOICE, log entry 110). -/
def Mod.head (m : Mod) (tile qid : Nat) : Mod :=
  let t := m.t tile
  match t.q qid with
  | [] => m
  | k :: _ =>
    if t.discard.contains k.epoch then
      let m1 := m.popQ tile qid
      { m1 with icp := { m1.icp with disc := tset m1.icp.disc (tDie tile) (tget 0 m1.icp.disc (tDie tile) + 1) } }
    else if !t.usable k.epoch then m
    else match t.entry k.epoch (qid / 8) k.stream with
      | none => ((m.tput tile { t with missed := t.missed + 1 }).popQ tile qid).cmdFault (m.ctxAt tile) 0x080A (k.stream + tile * 2 ^ 48)
      | some r =>
        if rAction r = 0 then
          match neighbour tile (rOut r) with
          | none => (m.popQ tile qid).leave tile qid
          | some (t2, inp) =>
            let q2 := 8 * inp + rNext r
            if (m.t t2).room t2 q2 then
              let m1 := (m.popQ tile qid).leave tile qid
              (m1.tput t2 ((m1.t t2).setQ q2 ((m1.t t2).q q2 ++ [k]))).restall t2
            else m
        else if k.epoch ≠ t.cur ∨ t.changing.isSome ∨ m.quietTile tile then m
        else if rAction r = 1 then
          if k.commit then
            if t.pendingHere then ((m.tput tile (t.gotCommit k.stream)).popQ tile qid).leave tile qid else m
          else match m.sink tile (rOut r) k with
            | some m1 => (m1.popQ tile qid).leave tile qid
            | none => m
        else m
/-- TOKEN_HEAD: the head of queue qid acts; freed places are used by the tile's sources (R164). -/
def execTokenHead (tile qid : Nat) (s : State) : Host.Outcome State Fault Refusal :=
  .next (s.live fun m => (m.head tile qid).emit tile)

/-! Steering units (R172 to R174). -/

/-- A consumable head for a unit (R165). -/
def Tile.shead (t : Tile) (qid : Nat) : Option Token :=
  match t.q qid with
  | k :: _ =>
    if k.epoch = t.cur ∧ t.changing.isNone then
      match t.entry t.cur (qid / 8) k.stream with
      | some r => if rAction r = 2 then some k else none
      | none => none
    else none
  | [] => none
/-- Put a unit's new token into its local queue; the unit is known to have places. -/
def Tile.putLocal (t : Tile) (stream : Nat) (data : List Byte) (commit : Bool) : Tile :=
  match t.localQ stream with
  | some q => t.setQ q (t.q q ++ [⟨data, stream, t.cur, commit⟩])
  | none => t
/-- Every named output has an entry and a place. -/
def Tile.outsOk (t : Tile) (tile : Nat) (outs : List Nat) : Bool :=
  outs.all (fun o => match t.localQ o with | some q => t.room tile q | none => false)
/-- A unit's firing (R173, R174, R189). Commit tokens at its inputs wait there until the tile's own commit arrives (DESIGN CHOICE, log
entry 110). -/
def Mod.steer (m : Mod) (tile u : Nat) : Mod :=
  let t := m.t tile
  let w := t.unit t.cur u
  let heads := (uIns w).map (fun q => (q, t.shead q))
  if uKind w = 0 ∨ 4 < uKind w ∨ t.changing.isSome ∨ m.quietTile tile then m
  else if heads.any (fun p => match p.2 with | some k => k.commit | none => false) then
    if heads.all (fun p => match p.2 with | some k => k.commit | none => false) && t.pendingHere && t.outsOk tile (uOuts w) then
      let c := match t.commit with | some c => c.c | none => 0
      let m1 := heads.foldl (fun m p => match p.2 with
        | some k => ((m.tput tile ((m.t tile).gotCommit k.stream)).popQ tile p.1).leave tile p.1
        | none => m) m
      (uOuts w).foldl (fun m o => m.tput tile ((m.t tile).putLocal o (natLE 4 c ++ List.replicate 60 0) true)) m1
    else m
  else
    let fire (ctl : Option Token) (dq : Nat) (k : Token) (outs : List Nat) : Mod :=
      if t.outsOk tile outs then
        let m1 := outs.foldl (fun m o => m.tput tile ((m.t tile).putLocal o k.data false)) m
        let m2 := (m1.popQ tile dq).leave tile dq
        match ctl with
        | none => m2
        | some c =>
          let n := tget 0 (m2.t tile).fired u + 1
          if leNat ((c.data.drop 2).take 2) < n then
            ((m2.tput tile { m2.t tile with fired := tdel (m2.t tile).fired u }).popQ tile (uCq w)).leave tile (uCq w)
          else m2.tput tile { m2.t tile with fired := tset (m2.t tile).fired u n }
      else m
    let range (drops : List Nat) : Mod :=
      let m1 := drops.foldl (fun m q => m.popQ tile q) m
      (m1.tput tile { m1.t tile with fired := tdel (m1.t tile).fired u }).cmdFault (m.ctxAt tile) 0x080B (u + tile * 2 ^ 48)
    if uKind w = 3 then
      match t.shead (uDq0 w) with
      | some k => fire none (uDq0 w) k (uOuts w)
      | none => m
    else match t.shead (uCq w) with
      | none => m
      | some c =>
        let sel := (nth 0 c.data 0).toNat
        if uKind w = 2 then
          if 1 < sel then range [uCq w]
          else
            let dq := if sel = 0 then uDq0 w else uDq1 w
            match t.shead dq with
            | some k => fire (some c) dq k ((uOuts w).take 1)
            | none => m
        else match t.shead (uDq0 w) with
          | none => m
          | some k =>
            if uKind w = 1 then
              (if (uOuts w).length ≤ sel then range [uCq w, uDq0 w] else fire (some c) (uDq0 w) k [nth 0 (uOuts w) sel])
            else if 1 < sel then range [uCq w, uDq0 w]
            else fire (some c) (uDq0 w) k (if sel = 1 then (uOuts w).take 1 else [])
/-- STEER_FIRE (R173). -/
def execSteerFire (tile unit : Nat) (s : State) : Host.Outcome State Fault Refusal :=
  .next (s.live fun m => (m.steer tile unit).emit tile)

/-- SLIDE_CHANGE_DONE: the new slide is current; held carousel descriptors take effect in order (R179, R182). -/
def execSlideChangeDone (tile : Nat) (s : State) : Host.Outcome State Fault Refusal :=
  .next (s.live fun m =>
    let t := m.t tile
    match t.changing with
    | none => m
    | some e =>
      let m1 := (m.tput tile { t with cur := e, changing := none }).carSignals tile
      ((m1.carResume tile).emit tile).latency 0x0B (tDie tile) (some tile) none)
/-- COMMIT_ARRIVE: the pending commit reaches the tile (R188, R189). -/
def execCommitArrive (tile : Nat) (s : State) : Host.Outcome State Fault Refusal :=
  .next (s.live fun m =>
    match (m.t tile).commit with
    | some c => (m.tput tile { m.t tile with commit := some { c with arrived := true } }).emit tile
    | none => m)
/-- CAROUSEL_DESCRIPTOR: the carousel goes to STEP, or does so once a change in progress has ended (R182). -/
def execCarouselDescriptor (tile q : Nat) (s : State) : Host.Outcome State Fault Refusal :=
  .next (s.live fun m =>
    if (m.t tile).frozen then m
    else match m.startHead tile q 0x40 with
      | (none, m1) => m1
      | (some d, m1) =>
        let m2 := m1.markStarted tile q d
        let x := (fld d.raw 36 32, q, d.seq)
        let t := m2.t tile
        if t.changing.isSome then m2.tput tile { t with steps := t.steps ++ [x] } else (m2.carTake tile x).restall tile)

/-- The ICP delivers a pending commit to every tile of a region (R188). -/
def Mod.deliver (m : Mod) (region c : Nat) : Mod :=
  (allTiles.filter (inRegion (nth 0 m.img.regions region))).foldl (fun m i => m.tput i { m.t i with commit := some { c := c } }) m
/-- A BARRIER collective has completed: the commits of its number that wait for it are delivered (R323, R361). -/
def Mod.releaseCommit (m : Mod) (c : Nat) : Mod :=
  (m.icp.pend.filter (fun p => p.2 == c && tget false m.icp.hold p.1)).foldl (fun m p =>
    ({ m with icp := { m.icp with hold := tdel m.icp.hold p.1 } } : Mod).deliver p.1 c) m

/-- The carousel of a tile at a command start: step 0, counters cleared, the change made (R183). -/
def Tile.carReset (t : Tile) : Tile :=
  let r := t.resolve 4096 [] 0
  let e := fld (t.prog' t.home r.1) 4 2
  { t with step := r.1, loops := r.2, left := 0, want := if t.slState e = 0 then some e else none, changing := none, steps := [], sigs := [],
           cur := if t.slState e = 0 then t.cur else e, fired := [] }
/-- A switch at once, its change made (R191). -/
def Tile.switchNow (t : Tile) (tile : Nat) : Tile :=
  let t1 := t.switch tile
  { t1 with changing := none, cur := t1.changing.getD t1.cur }
/-- Empty a tile's stream queues (R183); a tile still pending switches at once (R191). -/
def Tile.flush (t : Tile) (tile : Nat) : Tile :=
  let t1 := { t with queues := [], fired := [], stall := false, sigs := [], steps := [] }
  if t1.commit.isSome then t1.switchNow tile else t1
/-- A slide change that a command's start or end makes is counted by the meters (R179, R183, R191). -/
def Mod.changed (m : Mod) (tile : Nat) (t : Tile) : Mod :=
  let m1 := m.tput tile t
  if (m.t tile).cur = t.cur then m1 else m1.latency 0x0B (tDie tile) (some tile) none

end Sys2Proof.Machine
end

