-- ==== Sys2Proof/Machine/Links.lean ====
section
/-! DEFINITION. Ersan ports, link layer, routes, windows, remote accesses (R296 to R313, R325, R326, R329). -/

namespace Sys2Proof.Machine

def Mod.ersMap (m : Mod) (f : Ersan → Ersan) : Mod := { m with ers := f m.ers }
/-- I/O die of a port, as a die number. -/
def portDie (p : Nat) : Nat := 4 + p / 16
/-- Set bits of ERS_EVENT: 0 PORT_DOWN, 1 FAULT_NOTICE, 2 MID_CONFLICT, 3 DOMAIN_MISMATCH, 4 WIN_REVOKED, 5 NO_ROUTE, 6 HOPS_EXPIRED,
7 CMD_REJECT (Table 12.18). -/
def Mod.ersEvent (m : Mod) (bit : Nat) : Mod := m.raiseEv evErs (2 ^ bit)
/-- ERS_DROPPED (R305, R325). -/
def Mod.ersDrop (m : Mod) (n : Nat) : Mod := m.bump 0x600308 n
/-- ENABLE of a port. -/
def Mod.portOn (m : Mod) (p : Nat) : Bool := bitAt (m.rg (0x600180 + 4 * p)) 0

/-! Groups (R313). -/

/-- Members of a group, by rank. -/
def Mod.members (m : Mod) (g : Nat) : List Nat :=
  let raw := tget 0 m.ers.group g
  match tget? m.ers.lists g with
  | some l => l.take (fld raw 20 10)
  | none => (List.range (fld raw 20 10)).map (fun i => (fld raw 9 0 + i * fld raw 30 21) % 1024)

/-! Routes and slots (R302 to R304). -/

def Mod.routeRaw (m : Mod) (mid : Nat) : Nat := tget 0 m.ers.route mid
def primaries (raw : Nat) : List Nat := bitsOf 32 (fld raw 31 0)
def alternates (raw : Nat) : List Nat := bitsOf 32 (fld raw 63 32)
/-- Port the build rule gives slot s (R303). -/
def buildPort (raw s : Nat) : Nat := let k := primaries raw; nth 0 k (s % max k.length 1)
/-- Spread table of a destination as built. -/
def buildSlots (raw : Nat) : List Nat := (List.range 16).map (buildPort raw)
/-- Spread table of a destination (R303). -/
def Mod.slots (m : Mod) (mid : Nat) : List Nat := (tget? m.ers.spread mid).getD (buildSlots (m.routeRaw mid))
/-- A port is live for routing: up, asleep, or still training (R298, R304). -/
def Mod.live (m : Mod) (p : Nat) : Bool := !(m.port p).lost
/-- Next live port after p in a rising list, wrapping (R303). -/
def Mod.nextLive (m : Mod) (ps : List Nat) (p : Nat) : Option Nat :=
  (ps.filter (fun k => decide (p < k)) ++ ps.filter (fun k => decide (k ≤ p))).find? m.live
/-- Where a slot of port p goes (R303). -/
def Mod.movedTo (m : Mod) (raw p : Nat) : Nat := ((m.nextLive (primaries raw) p).orElse (fun _ => m.nextLive (alternates raw) p)).getD p
/-- Slot of a flit (R303). -/
def slotOf (f : Flit) : Nat :=
  if 0x10 ≤ f.typ ∧ f.typ ≤ 0x15 then (f.dst + f.keyA + f.keyB / 128) % 16
  else if f.typ = 0x23 then (f.keyA + f.keyB + f.keyC / 4096) % 16
  else (f.dst + f.src) % 16
/-- The destination has a valid entry with a live port (R305). -/
def Mod.reachable (m : Mod) (mid : Nat) : Bool :=
  let raw := m.routeRaw mid
  bitAt raw 64 && (primaries raw ++ alternates raw).any m.live

/-! Sending. -/

/-- Buffers freed at receiving ports are owed as credits (R301). -/
def Mod.owe (m : Mod) (l : List (Nat × Nat)) : Mod :=
  l.foldl (fun m p => m.pput p.1 { m.port p.1 with owed := tset (m.port p.1).owed p.2 (tget 0 (m.port p.1).owed p.2 + 1) }) m
/-- Queued flits of a port leave as credits allow. -/
def Mod.pumpPort (m : Mod) (p : Nat) : Mod :=
  let x := m.port p
  let r := x.pump x.txq.length []
  let sent := ((r.1.retry.drop x.retry.length).map (fun f => f.payload.length)).sum
  ((m.pput p r.1).owe r.2).count 0x18 (portDie p) sent (some p)
/-- Dies a flit crosses between the I/O dies (R305): lanes 0 to 3 by CD[0] and CD[1], lanes 4 to 7 by CD[2] and CD[3]. -/
def crossDies (vl : Nat) : List Nat := if vl < 4 then [0, 1] else [2, 3]
/-- Dies other than its port's that a flit crosses on its way from a die to a port: from an input port or an engine of the other I/O die the
rows of R305, from a compute die the path of R14. -/
def wayDies (src p : Nat) (f : Flit) : List Nat :=
  if src = portDie p then [] else if 4 ≤ src then crossDies f.vl else (pathDies src (portDie p)).filter (fun d => decide (d < 4))
/-- A flit enters the queue of a port; the I/O die of a port wakes for traffic (R21, R298). -/
def Mod.toPort (m : Mod) (p : Nat) (inp : Option Nat) (f : Flit) : Mod :=
  let m1 := if m.sleeps (portDie p) then m.wakeTo (portDie p) 1 else m
  (m1.pput p { m1.port p with txq := (m1.port p).txq ++ [(inp, f)] }).pumpPort p
/-- A flit of a die goes to the port of its slot, is held while the slot moves, waits for a die in DEEP on its way, which it raises, or is
dropped for want of a route (R21, R303 to R305). -/
def Mod.forward (m : Mod) (src : Nat) (inp : Option Nat) (f : Flit) : Mod :=
  if !m.reachable f.dst then
    ((m.ersDrop 1).ersEvent 5).owe (match inp with | some i => [(i, f.vl)] | none => [])
  else
    let s := slotOf f
    let p := nth 0 (m.slots f.dst) s
    let asleep := (wayDies src p f).filter m.sleeps
    if (tget? m.ers.moving (16 * f.dst + s)).isSome then m.ersMap (fun e => { e with heldF := e.heldF ++ [(16 * f.dst + s, src, inp, f)] })
    else if !asleep.isEmpty then
      (asleep.foldl (fun m d => m.wakeTo d 1) m).ersMap (fun e => { e with crossing := e.crossing ++ [(src, inp, f)] })
    else m.toPort p inp f
/-- A die has woken: the flits that waited for it go on, in order (R21). -/
def Mod.crossOver (m : Mod) : Mod :=
  m.ers.crossing.foldl (fun m x => m.forward x.1 x.2.1 x.2.2) (m.ersMap (fun e => { e with crossing := [] }))
/-- A flit of this module with no link fields yet; hops 31 (R305). -/
def mkFlit (typ vl dst src : Nat) : Flit :=
  { typ := typ, vl := vl, hops := 31, dst := dst, src := src, xacc := false, last := true, txn := 0, keyA := 0, keyB := 0, keyC := 0,
    payload := [], lseq := 0, lack := 0, creditVl := 0, credits := 0 }
/-- CRC-32C of a byte string, polynomial 0x1EDC_6F41 in its usual form: bits reflected, start and final value inverted (R299; log entry
87). -/
def crc32c (bs : List Byte) : Nat :=
  let bit (c : Nat) : Nat := if c % 2 = 1 then (c / 2) ^^^ 0x82F63B78 else c / 2
  (bs.foldl (fun c b => (List.range 8).foldl (fun c _ => bit c) (c ^^^ b.toNat)) 0xFFFFFFFF) ^^^ 0xFFFFFFFF
/-- Bytes 0 to 251 of a flit (Table 12.2). -/
def Flit.body (f : Flit) : List Byte :=
  natLE 1 f.typ ++ natLE 1 (f.vl % 8 + 8 * (f.hops % 32)) ++ natLE 2 (f.dst % 1024) ++ natLE 2 (f.src % 1024) ++ natLE 1 f.payload.length ++
  natLE 1 (b2n f.xacc + 2 * b2n f.last) ++ natLE 2 f.txn ++ natLE 2 f.keyA ++ natLE 4 f.keyB ++ natLE 8 f.keyC ++
  ((f.payload ++ List.replicate 224 0).take 224) ++
  natLE 4 (f.lseq % 4096 + 2 ^ 12 * (f.lack % 4096) + 2 ^ 24 * (f.creditVl % 8) + 2 ^ 27 * (f.credits % 32))
/-- The 256 bytes of a flit on a link (Table 12.2). -/
def Flit.wire (f : Flit) : List Byte := Flit.body f ++ natLE 4 (crc32c (Flit.body f))
/-- The flit that 256 received bytes spell; none where the CRC fails (R299). -/
def flitOf (bs : List Byte) : Option Flit :=
  let at' (i n : Nat) : Nat := leNat ((bs.drop i).take n)
  if bs.length ≠ 256 ∨ at' 252 4 ≠ crc32c (bs.take 252) then none
  else some { typ := at' 0 1, vl := at' 1 1 % 8, hops := at' 1 1 / 8, dst := at' 2 2 % 1024, src := at' 4 2 % 1024,
              xacc := bitAt (at' 7 1) 0, last := bitAt (at' 7 1) 1, txn := at' 8 2, keyA := at' 10 2, keyB := at' 12 4, keyC := at' 16 8,
              payload := (bs.drop 24).take (at' 6 1), lseq := fld (at' 248 4) 11 0, lack := fld (at' 248 4) 23 12,
              creditVl := fld (at' 248 4) 26 24, credits := fld (at' 248 4) 31 27 }
/-- Release the held flits of a slot. -/
def Mod.release (m : Mod) (key : Nat) : Mod :=
  let hs := m.ers.heldF.filter (fun h => h.1 == key)
  let m1 := m.ersMap (fun e => { e with heldF := e.heldF.filter (fun h => h.1 != key), moving := tdel e.moving key })
  hs.foldl (fun m h => m.forward h.2.1 h.2.2.1 h.2.2.2) m1

/-! Ports going down and coming back (R297, R303, R304, R311, R325). -/

/-- Slots of a port move to the next live port (R303); moves toward it end. -/
def Mod.dropSlots (m : Mod) (p : Nat) : Mod :=
  let m1 := m.ers.route.foldl (fun m r =>
    let ss := m.slots r.1
    if ss.contains p && bitAt r.2 64 then
      m.ersMap (fun e => { e with spread := tset e.spread r.1 (ss.map (fun k => if k = p then m.movedTo r.2 p else k)) })
    else m) m
  (m1.ers.moving.filter (fun v => v.2 == p)).foldl (fun m v => m.release v.1) m1
/-- A window with a lease whose source group has become unreachable is revoked (R311). -/
def Mod.revokeDead (m : Mod) : Mod :=
  m.ers.win.foldl (fun m w =>
    let g := fld w.2 95 80
    if bitAt w.2 128 && fld w.2 127 96 != 0 && g != 0xFFFF && (m.members g).all (fun k => k != m.ers.mid && !m.reachable k) then
      (m.ersMap (fun e => { e with win := tset e.win w.1 (setFld w.2 128 128 0) })).ersEvent 4
    else m) m
/-- A port counts as gone down: what waits in it is discarded and counted, and its slots move (R303, R304, R325). -/
def Mod.outOf (m : Mod) (p : Nat) (y : Port) : Mod :=
  let x := m.port p
  let m1 := (m.ersDrop (x.retry.length + x.txq.length)).owe (x.txq.filterMap (fun q => q.1.map (fun i => (i, q.2.vl))))
  ((m1.pput p { y with gone := true, lost := true, retry := [], resent := [], txq := [], owed := (m1.port p).owed }).dropSlots p).revokeDead
/-- A port leaves service (R325). -/
def Mod.takeOut (m : Mod) (p cause : Nat) : Mod :=
  let m1 := m.outOf p { partner := (m.port p).partner, cause := cause }
  m1.pput p { m1.port p with owed := [] }
/-- A port goes down (R325). -/
def Mod.portDown (m : Mod) (p cause : Nat) : Mod := if 32 ≤ p ∨ (m.port p).st = 0 then m else (m.takeOut p cause).ersEvent 0
/-- LANE_LOCK_LOSS (R325). -/
def execLaneLockLoss (p : Nat) (s : State) : Host.Outcome State Fault Refusal := .next (s.on fun m => m.portDown p 1)
/-- LINK_TIMEOUT: no good flit for ERS_LINK_TIMEOUT (R325, R386). -/
def execLinkTimeout (p : Nat) (s : State) : Host.Outcome State Fault Refusal :=
  .next (s.on fun m => if (m.port p).st = 2 then m.using [0x600010] (fun m => m.portDown p 2) else m)
/-- RESTORE: a trained port that counts as gone down returns to service, and the slots the build rule gives it begin to move back
(R297, R304). -/
def Mod.restorePort (m : Mod) (p : Nat) : Mod :=
  let x := m.port p
  if x.gone && (x.st == 2 || x.st == 3) then
    let m1 := (m.pput p { x with gone := false, lost := false }).pumpPort p
    m1.ers.route.foldl (fun m r =>
      (List.range 16).foldl (fun m s =>
        if bitAt r.2 64 && buildPort r.2 s == p && nth 0 (m.slots r.1) s != p then
          m.ersMap (fun e => { e with moving := tset e.moving (16 * r.1 + s) p })
        else m) m) m1
  else m
/-- ENABLE of a port is written: cleared it takes the port down; set, the port trains and counts as up for routing meanwhile
(R304, R325). -/
def Mod.enablePort (m : Mod) (p : Nat) (on : Bool) : Mod :=
  let m1 := m.rput (0x600180 + 4 * p) (b2n on)
  if on then
    (if m1.ld.active && (m1.port p).st == 0 then m1.pput p { m1.port p with st := 1, lost := false } else m1)
  else m1.portDown p 6
/-- PORT_RETRAIN: a port that is down trains again once the image is active (R297). -/
def execPortRetrain (p : Nat) (s : State) : Host.Outcome State Fault Refusal :=
  .next (s.on fun m => m.using [0x600180 + 4 * p] fun m => if p < 32 && m.ld.active && m.portOn p && (m.port p).st == 0 then m.pput p { m.port p with st := 1 } else m)
/-- PORT_UP: training ends and the two ends have exchanged MID and DOMAIN (R297). -/
def execPortUp (p mid domain : Nat) (s : State) : Host.Outcome State Fault Refusal :=
  .next (s.on fun m => m.using [0x600180 + 4 * p] fun m =>
    let x := m.port p
    if !(p < 32 && m.ld.active && m.portOn p && x.st == 1) then m
    else
      let x1 : Port := { x with partner := mid % 1024 }
      if mid % 1024 = m.ers.mid then (m.pput p { x1 with st := 0, cause := 5 }).ersEvent 2
      else if domain % 65536 ≠ m.ers.domain then (m.pput p { x1 with st := 0, cause := 5 }).ersEvent 3
      else
        let m0 := if m.sleeps (portDie p) ∧ !x.txq.isEmpty then m.wakeTo (portDie p) 1 else m
        (m0.pput p { x1 with st := if (m.die (portDie p)).st = 0 then 3 else 2, txSeq := 0, rxSeq := 0, retry := [], resent := [],
                               used := [], owed := [], gap := false }).pumpPort p)
/-- PORT_UP_TIMEOUT: a port that is not in service within 100 ms counts as gone down; it goes on training (R304). -/
def execPortUpTimeout (p : Nat) (s : State) : Host.Outcome State Fault Refusal :=
  .next (s.on fun m =>
    let x := m.port p
    if p < 32 && (decide (x.st < 2) || x.gone) && m.ld.active then m.outOf p x else m)
/-- SLOT_MOVE_DONE: every flit of the slot queued on its current port has left; the slot goes to its own port and the held flits follow
(R304). -/
def execSlotMoveDone (mid slot : Nat) (s : State) : Host.Outcome State Fault Refusal :=
  .next (s.on fun m =>
    match tget? m.ers.moving (16 * mid + slot) with
    | none => m
    | some p =>
      let cur := nth 0 (m.slots mid) slot
      let mine (f : Flit) : Bool := f.dst == mid && slotOf f == slot
      if slot < 16 ∧ (m.port cur).txq.all (fun q => !mine q.2) ∧ m.ers.crossing.all (fun x => !mine x.2.2) then
        (m.ersMap (fun e => { e with spread := tset e.spread mid (lset (m.slots mid) slot p) })).release (16 * mid + slot)
      else m)
/-- LINK_WAKE_DONE: a sleeping port of an I/O die that has left DEEP is up (R21, R298). -/
def execLinkWakeDone (p : Nat) (s : State) : Host.Outcome State Fault Refusal :=
  .next (s.on fun m =>
    if (m.port p).st == 3 && (m.die (portDie p)).st != 0 then (m.pput p { m.port p with st := 2 }).pumpPort p else m)

/-! The link layer (R299 to R301). -/

/-- A port sends IDLE (0) or RETRY (1): LACK, and one lane's credits, go with it (R299, R300). -/
def Mod.linkFlit (m : Mod) (p typ : Nat) : Mod :=
  let r := (m.port p).stamp { mkFlit typ 0 0 0 with hops := 0 } 0
  m.pput p { r.2 with ctl := some r.1 }
/-- IDLE_TIMER (R299). -/
def execIdleTimer (p : Nat) (s : State) : Host.Outcome State Fault Refusal :=
  .next (s.on fun m => if (m.port p).st = 2 then m.linkFlit p 0 else m)
/-- Link fields of a good flit: acknowledged flits leave the retry buffer, credits return, queued flits follow (R300, R301). -/
def Mod.linkIn (m : Mod) (p : Nat) (f : Flit) : Mod :=
  let x := m.port p
  let n := match x.retry with
    | [] => 0
    | o :: _ => let k := (f.lack + 4097 - o.lseq) % 4096; if k ≤ x.retry.length then k else 0
  let u := tget 0 x.used f.creditVl
  (m.pput p { x with retry := x.retry.drop n, resent := x.resent.drop n, used := tset x.used f.creditVl (u - f.credits) }).pumpPort p
/-- A module contained by a fatal fault drops what it receives (R326), and so does one without an active image, whose ports do not train
(R297, R349). -/
def Mod.hears (m : Mod) (p : Nat) : Bool := decide (p < 32) && m.mon.fltState == 0 && m.ld.phase != 7 && (m.port p).st == 2
/-- Symbols that FEC corrected in a received flit are counted (R300). -/
def Mod.fecIn (m : Mod) (f : Flit) : Mod := if f.fec = 0 then m else m.bump 0x600300 f.fec
/-- Traffic at a sleeping port raises its I/O die (R21, R298). -/
def Mod.knock (m : Mod) (p : Nat) : Mod := if p < 32 ∧ (m.port p).st = 3 then m.wakeTo (portDie p) 1 else m
/-- IDLE: link fields only (R300). -/
def execFlitIdle (p : Nat) (f : Flit) (s : State) : Host.Outcome State Fault Refusal :=
  .next (s.on fun m => if m.hears p && f.typ == 0 then (m.fecIn f).linkIn p f else m.knock p)
/-- RETRY: everything from LACK + 1 is sent again; a flit resent 16 times takes the port down (R300, R325). -/
def execFlitRetry (p : Nat) (f : Flit) (s : State) : Host.Outcome State Fault Refusal :=
  .next (s.on fun m =>
    if m.hears p && f.typ == 1 then
      let m1 := (m.fecIn f).linkIn p f
      let x := m1.port p
      let rs := x.resent.map (· + 1)
      let m2 := (m1.pput p { x with resent := rs }).bump 0x600304 x.retry.length
      if rs.any (fun k => decide (16 ≤ k)) then m2.portDown p 3 else m2
    else m.knock p)
/-- BAD_CRC: the flit is discarded, RETRY is sent, and flits are discarded until the resent one (R299, R300). -/
def execBadCrc (p : Nat) (s : State) : Host.Outcome State Fault Refusal :=
  .next (s.on fun m => if m.hears p then (m.pput p { m.port p with gap := true }).linkFlit p 1 else m)
/-- A numbered flit of a type arrives: taken in order or discarded; delivered here or sent on (R300, R302, R305). The delivery says
whether the flit's place in the buffer is free again. -/
def Mod.rx (m : Mod) (p typ : Nat) (f : Flit) (here : Mod → Mod × Bool) : Mod :=
  if !m.hears p then m.knock p
  else if f.typ ≠ typ then m
  else
    let m0 := m.fecIn f
    let x := m0.port p
    if f.lseq ≠ x.rxSeq then
      -- one already received is not taken twice; a gap is answered by RETRY; a discarded flit gives no link fields
      (if (x.rxSeq + 4096 - f.lseq) % 4096 ≤ 1024 ∨ x.gap then m0 else (m0.pput p { x with gap := true }).linkFlit p 1)
    else
      let m1 := m0.linkIn p f
      let m2 := m1.pput p { m1.port p with rxSeq := (x.rxSeq + 1) % 4096, gap := false }
      if f.dst = m2.ers.mid then
        let r := here m2
        if r.2 then r.1.owe [(p, f.vl)] else r.1
      else if f.hops ≤ 1 then ((m2.ersDrop 1).ersEvent 6).owe [(p, f.vl)]
      else m2.forward (portDie p) (some p) { f with hops := f.hops - 1, fec := 0 }
/-- A delivery whose buffer place is free at once. -/
def Mod.rx1 (m : Mod) (p typ : Nat) (f : Flit) (here : Mod → Mod) : Mod := m.rx p typ f (fun m => (here m, true))
/-- FAULT: the partner's ports go down and its MID and code are recorded (R325, R326). -/
def execFlitFault (p : Nat) (f : Flit) (s : State) : Host.Outcome State Fault Refusal :=
  .next (s.on fun m => m.rx1 p 0x30 f (fun m =>
    let m1 := m.ersMap (fun e => { e with faultMid := f.src, faultCode := f.keyC % 65536 })
    (m1.ersEvent 1).portDown p 4))

/-! Remote accesses of this module (R306, R307, R309, R312). -/

/-- Fields of a remote window address (Table 12.7). -/
def rwOff (a : Nat) : Nat := fld a 24 0
def rwX (a : Nat) : Bool := bitAt a 25
def rwWin (a : Nat) : Nat := fld a 37 26
def rwMid (a : Nat) : Nat := fld a 47 38
/-- The request after a remote window address at a byte offset. -/
def rwAdd (a n : Nat) : Nat := setFld a 24 0 (rwOff a + n / 32)
/-- A remote request of a descriptor has ended; only reads hold their descriptor (R202). -/
def Mod.remEnd (m : Mod) (x : Txn) : Mod :=
  if x.kind ≠ 0 then m
  else match (m.e x.core x.q).buf.find? (fun d => d.seq == x.seq) with
  | some d => m.eput x.core x.q ((m.e x.core x.q).setDesc { d with rem := d.rem - 1 })
  | none => m
/-- Data of a read reaches its transfer: a stream source takes it in order, other destinations by offset (R197). -/
def Mod.readData (m : Mod) (x : Txn) (off : Nat) (bs : List Byte) : Mod :=
  match (m.e x.core x.q).buf.find? (fun d => d.seq == x.seq) with
  | some d =>
    let m1 := m.charge x.ctx 10 bs.length
    if tDm d.raw = 2 then (m1.eput x.core x.q ((m1.e x.core x.q).setDesc { d with data := d.data ++ bs })).emit x.core
    else m1.putDst x.core x.q d off bs
  | none => m
/-- Completed reads for a stream leave in the order of their requests. -/
def Mod.drainReads : Nat → Mod → Nat → Nat → Nat → Mod
  | 0, m, _, _, _ => m
  | n + 1, m, core, q, seq =>
    match m.ers.txns.find? (fun x => x.core == core && x.q == q && x.seq == seq) with
    | some x =>
      if x.kind = 0 ∧ x.got = x.len ∧ !x.data.isEmpty then
        ((({ m with ers := { m.ers with txns := m.ers.txns.filter (fun y => y.id != x.id) } } : Mod).readData x x.off x.data).remEnd x).drainReads n core q seq
      else m
    | none => m
/-- A remote access refused: REMOTE_DENIED (R309). -/
def Mod.refusedReq (m : Mod) (x : Txn) (reason : Nat) : Mod :=
  (m.remEnd x).cmdFault x.ctx 0x0810 (reason % 65536 + fld x.addr 47 16 * 65536)
/-- The outstanding access that a reply answers. -/
def Mod.txnOf (m : Mod) (f : Flit) : Option Txn := m.ers.txns.find? (fun x => x.id == f.txn && rwMid x.addr == f.src)
def Mod.dropTxn (m : Mod) (id : Nat) : Mod := m.ersMap (fun e => { e with txns := e.txns.filter (fun x => x.id != id) })
/-- Data of a read arrives; data of an ended access is discarded (R306, R312). -/
def Mod.takeResp (m : Mod) (f : Flit) : Mod :=
  match m.txnOf f with
  | none => m
  | some x =>
    if x.kind ≠ 0 then m
    else
      let x1 : Txn := { x with got := x.got + f.payload.length, data := x.data ++ f.payload }
      let m1 := m.ersMap (fun e => { e with txns := e.txns.map (fun y => if y.id = x.id then x1 else y) })
      let stream := match (m1.e x.core x.q).buf.find? (fun d => d.seq == x.seq) with | some d => tDm d.raw == 2 | none => false
      if x1.got < x.len then m1
      else if stream then m1.drainReads (m1.ers.txns.length) x.core x.q x.seq
      else ((m1.dropTxn x.id).readData x1 x.off x1.data).remEnd x1
/-- A write or exact-accumulate is complete at its target (R309). -/
def Mod.takeAck (m : Mod) (f : Flit) : Mod :=
  match m.txnOf f with
  | some x => if x.kind = 0 then m else (m.dropTxn x.id).remEnd x
  | none => m
/-- The access counts as complete and its command aborts with REMOTE_DENIED (R217, R309). -/
def Mod.takeNack (m : Mod) (f : Flit) : Mod :=
  match m.txnOf f with
  | some x => (m.dropTxn x.id).refusedReq x f.keyC
  | none => m
/-- READ_RESP (R306, R312). -/
def execFlitReadResp (p : Nat) (f : Flit) (s : State) : Host.Outcome State Fault Refusal := .next (s.on fun m => m.rx1 p 0x11 f (fun m => m.takeResp f))
/-- ACK (R309). -/
def execFlitAck (p : Nat) (f : Flit) (s : State) : Host.Outcome State Fault Refusal := .next (s.on fun m => m.rx1 p 0x14 f (fun m => m.takeAck f))
/-- NACK (R217, R309). -/
def execFlitNack (p : Nat) (f : Flit) (s : State) : Host.Outcome State Fault Refusal := .next (s.on fun m => m.rx1 p 0x15 f (fun m => m.takeNack f))
/-- REMOTE_ACCESS_TIMEOUT: the access ends and its command aborts with REMOTE_TIMEOUT (R217, R312). -/
def execRemoteAccessTimeout (txn : Nat) (s : State) : Host.Outcome State Fault Refusal :=
  .next (s.on fun m =>
    match m.ers.txns.find? (fun x => x.id == txn) with
    | some x => m.using [0x600014] fun m => ((m.dropTxn x.id).remEnd x).cmdFault x.ctx 0x080F (x.addr % 2 ^ 48 + x.core * 2 ^ 48)
    | none => m)

/-! Windows (R308 to R311). -/

def Mod.winRaw (m : Mod) (w : Nat) : Nat := tget 0 m.ers.win w
/-- Denial of a request, in the order of Table 12.16; 0 when accepted (R309, R310, R355). -/
def Mod.denial (m : Mod) (r : RxReq) : Nat :=
  let w := m.winRaw r.win
  let sz := fmtSize (fld w 79 76)
  firstErr [
    (!m.ld.started || !bitAt w 128, 0x0B11),
    (fld w 95 80 != 0xFFFF && !(m.members (fld w 95 80)).contains r.src, 0x0B12),
    (!bitAt w (73 + r.kind), 0x0B13),
    (decide (32 * (fld w 72 48 + 1) < 32 * r.off + r.len), 0x0B14),
    (r.kind == 2 && (32 * r.off % sz != 0 || r.len % sz != 0), 0x0B15)]
/-- Number that a request's lines carry. -/
def RxReq.tag (r : RxReq) : Nat := r.src * 65536 + r.txn
/-- Device address of an accepted request, under the entry that it was accepted with (R311). -/
def RxReq.addr (r : RxReq) : Nat := fld r.entry 47 0 + 32 * r.off
/-- Requester of its accesses: the receive engine of its I/O die, or the collective engine for an exact-accumulate (R309, R310). -/
def RxReq.unit (r : RxReq) : Nat := if r.kind = 2 then collId (r.io - 4) else ersanId r.io
/-- Exact sums of runs of records of a form (R310). -/
def xaccBytes (form : Nat) (old new : List Byte) : List Byte :=
  let sz := fmtSize form
  ((chunks sz old).zip (chunks sz new)).flatMap (fun p => natLE sz (((Epr.ofNat form (leNat p.1)).add (Epr.ofNat form (leNat p.2))).toNat form))
/-- An accepted request at its window's memory: the data read, or none where nothing could be read. A record's earlier accumulates are
complete before the next one reads it (R310). -/
def Mod.serveWin (m : Mod) (r : RxReq) : Option (List Byte) × Mod :=
  match r.kind with
  | 0 => m.fetch r.unit noCtx r.addr r.len
  | 1 => (some [], m.issue r.unit 4 r.tag noCtx r.addr r.data)
  | _ =>
    match (m.drain (fun u _ _ => u == collId 0 || u == collId 1)).fetch r.unit noCtx r.addr r.len with
    | (none, m1) => (none, m1)
    | (some old, m1) => (some [], m1.issue r.unit 4 r.tag noCtx r.addr (xaccBytes (fld r.entry 79 76) old r.data))
/-- Every line of a request is complete at its target. -/
def Mod.complete (m : Mod) (r : RxReq) : Bool :=
  let mine (x : LineReq) : Bool := x.core == r.unit && x.seq == r.tag
  m.tile.all (fun kv => kv.2.reqs.all (fun x => !mine x)) && m.far.all (fun x => !mine x)
/-- A reply to a requester, this module itself among them; the keys of the request are returned with it (R307, R309). -/
def Mod.replyTo (m : Mod) (r : RxReq) (typ keyC : Nat) (last : Bool) (bs : List Byte) : Mod :=
  let f := { mkFlit typ 2 r.src m.ers.mid with txn := r.txn, keyA := r.win, keyB := r.off, keyC := keyC, last := last, payload := bs }
  if r.src = m.ers.mid then (if typ = 0x11 then m.takeResp f else if typ = 0x14 then m.takeAck f else m.takeNack f) else m.forward r.io none f
/-- A reply of an accepted request still waits here for its port (R19). -/
def Mod.replyWaits (m : Mod) (r : RxReq) : Bool :=
  let mine (f : Flit) : Bool := [0x11, 0x14].contains f.typ && f.src == m.ers.mid && f.dst == r.src && f.txn == r.txn
  m.ers.port.any (fun p => p.2.txq.any (fun q => mine q.2)) || m.ers.heldF.any (fun h => mine h.2.2.2) || m.ers.crossing.any (fun x => mine x.2.2)
/-- Note a request whose reply has just been sent off, and forget those whose replies have left. -/
def Mod.noteReply (m : Mod) (r : RxReq) : Mod := m.ersMap (fun e => { e with replies := (e.replies ++ [r]).filter m.replyWaits })
/-- ACKs of the requests that have become complete at module scope (R309). -/
def Mod.sendAcks (m : Mod) : Mod :=
  (m.ers.acks.filter m.complete).foldl (fun k r => (k.replyTo r 0x14 0 true []).noteReply r) (m.ersMap (fun e => { e with acks := e.acks.filter (fun r => !m.complete r) }))
/-- Run an accepted request; a read is answered at once, a write once it is complete (R309). -/
def Mod.runReq (m : Mod) (r : RxReq) : Mod :=
  match m.serveWin r with
  | (none, m1) => m1
  | (some bs, m1) =>
    if r.kind = 0 then
      let parts := (chunks 224 bs).zipIdx
      (parts.foldl (fun m p => m.replyTo r 0x11 (224 * p.2) (p.2 + 1 == parts.length) p.1) m1).noteReply r
    else (m1.ersMap (fun e => { e with acks := e.acks ++ [r] })).sendAcks
/-- A whole request at the receive engine: refused, run, or held until the dies it needs have left DEEP (R21, R309). -/
def Mod.request (m : Mod) (r : RxReq) : Mod :=
  let d := m.denial r
  if d ≠ 0 then (m.bump 0x60030C 1).replyTo r 0x15 d true []
  else
    let r1 := { r with entry := m.winRaw r.win }
    if m.awake r.io r1.addr r.len then m.runReq r1
    else ((m.touch r.io (targetOf r1.addr)).touch r.io (targetOf (r1.addr + r.len - 1))).ersMap (fun e => { e with asleep := e.asleep ++ [r1] })
/-- Held requests whose dies have left DEEP run. -/
def Mod.wakeReqs (m : Mod) : Mod :=
  let go (r : RxReq) : Bool := m.awake r.io r.addr r.len
  ((m.ers.asleep.filter go).foldl (fun m r => m.runReq r) (m.ersMap (fun e => { e with asleep := e.asleep.filter (fun r => !go r) }))).sendAcks
/-- READ_REQ (R309). -/
def execFlitReadReq (p : Nat) (f : Flit) (s : State) : Host.Outcome State Fault Refusal :=
  .next (s.on fun m => m.rx1 p 0x10 f (fun m => m.request ⟨f.src, f.txn, 0, f.keyA % 4096, f.keyB % 2 ^ 25, f.keyC % 8192, portDie p, [], 0⟩))
/-- A flit of a write or exact-accumulate joins its request, which runs with the LAST one (R309). -/
def Mod.gather (m : Mod) (p kind : Nat) (f : Flit) : Mod :=
  let mine (r : RxReq) : Bool := r.src == f.src && r.txn == f.txn && r.kind == kind
  let r0 := (m.ers.rx.find? mine).getD ⟨f.src, f.txn, kind, f.keyA % 4096, f.keyB % 2 ^ 25, 0, portDie p, [], 0⟩
  let r : RxReq := { r0 with data := r0.data ++ f.payload, len := r0.len + f.payload.length }
  let m1 := m.ersMap (fun e => { e with rx := e.rx.filter (fun r => !mine r) })
  if f.last then m1.request r else m1.ersMap (fun e => { e with rx := e.rx ++ [r] })
/-- WRITE (R309). -/
def execFlitWrite (p : Nat) (f : Flit) (s : State) : Host.Outcome State Fault Refusal :=
  .next (s.on fun m => m.rx1 p 0x12 f (fun m => m.gather p 1 f))
/-- XACC (R310). -/
def execFlitXacc (p : Nat) (f : Flit) (s : State) : Host.Outcome State Fault Refusal :=
  .next (s.on fun m => m.rx1 p 0x13 f (fun m => m.gather p 2 f))

/-- Issue one request of up to 4 KiB of a descriptor: 0 read, 1 write, 2 exact-accumulate. A destination with this module's own MID is
served here through its own window table, by the neighbouring I/O die's engines (R307). -/
def Mod.remote (m : Mod) (x : Txn) : Mod :=
  let mid := rwMid x.addr
  let m0 := if x.kind = 0 then m else m.charge x.ctx 9 x.data.length
  let id := m0.ers.nextTxn
  let m1 := m0.ersMap (fun e => { e with txns := e.txns ++ [{ x with id := id, data := [] }], nextTxn := (id + 1) % 65536 })
  if mid = m0.ers.mid then m1.request { src := mid, txn := id, kind := x.kind, win := rwWin x.addr, off := rwOff x.addr, len := x.len, io := 4 + tDie x.core % 2, data := x.data }
  else
    let base := { mkFlit (if x.kind = 0 then 0x10 else if x.kind = 1 then 0x12 else 0x13) (if x.kind = 0 then 1 else 3) mid m1.ers.mid with
      txn := id, keyA := rwWin x.addr, keyB := rwOff x.addr, xacc := x.kind == 2 }
    if x.kind = 0 then m1.forward (tDie x.core) none { base with keyC := x.len }
    else
      let parts := (chunks 224 x.data).zipIdx
      parts.foldl (fun m p => m.forward (tDie x.core) none { base with payload := p.1, last := p.2 + 1 == parts.length }) m1

/-! Window and route commands (R311, R328, R329). -/

/-- Loader checks of a window entry (Table 12.16). -/
def winBad (w : Nat) : Bool :=
  fld w 47 0 % 32 != 0 || !mapped (fld w 47 0) (32 * (fld w 72 48 + 1)) || (bitAt w 75 && !(decide (6 ≤ fld w 79 76) && decide (fld w 79 76 ≤ 8)))
    || fld w 255 129 != 0
/-- Loader checks of a route entry (Table 12.16). -/
def routeBad (r : Nat) : Bool := fld r 127 65 != 0 || (bitAt r 64 && fld r 31 0 == 0)
/-- WIN_DATA or ROUTE_DATA as one value. -/
def Mod.dataRegs (m : Mod) (base n : Nat) : Nat := (List.range n).foldr (fun i a => m.rg (base + 4 * i) + 2 ^ 32 * a) 0
def Mod.putRegs (m : Mod) (base n v : Nat) : Mod := (List.range n).foldl (fun m i => m.rput (base + 4 * i) (fld v (32 * i + 31) (32 * i))) m
def Mod.winSel (m : Mod) : Nat := m.rg 0x600200 % 4096
def Mod.routeSel (m : Mod) : Nat := m.rg 0x600240 % 1024
def Mod.winRead (m : Mod) : Mod := m.putRegs 0x600204 8 (m.winRaw m.winSel)
def Mod.winWrite (m : Mod) : Mod :=
  let w := m.dataRegs 0x600204 8
  if winBad w then m.ersEvent 7 else m.ersMap (fun e => { e with win := tset e.win m.winSel w })
def Mod.winClose (m : Mod) : Mod :=
  if bitAt (m.winRaw m.winSel) 128 then m.ersMap (fun e => { e with win := tset e.win m.winSel (setFld (m.winRaw m.winSel) 128 128 0) }) else m
def Mod.routeRead (m : Mod) : Mod := m.putRegs 0x600244 4 (m.routeRaw m.routeSel)
/-- A route write builds the destination's spread table anew, primary ports that train or are about to count as up again for its 100 ms, and moves of it end
(R303, R304); a window whose sources have no live port left is revoked (R311). -/
def Mod.routeWrite (m : Mod) : Mod :=
  let r := m.dataRegs 0x600244 4
  if routeBad r then m.ersEvent 7
  else
    let mid := m.routeSel
    let m0 := m.ersMap (fun e => { e with route := tset e.route mid r, spread := tdel e.spread mid })
    let m1 := ((primaries r).foldl (fun m p => if (m.port p).st = 1 ∨ ((m.port p).st = 0 ∧ m.portOn p) then m.pput p { m.port p with lost := false } else m) m0).revokeDead
    (m1.ers.moving.filter (fun v => v.1 / 16 == mid)).foldl (fun m v => m.release v.1) m1
/-- WINDOW_LEASE_EXPIRE: LEASE µs have passed without an accepted request: OPEN falls and WIN_REVOKED is raised (R311). -/
def execWindowLeaseExpire (w : Nat) (s : State) : Host.Outcome State Fault Refusal :=
  .next (s.on fun m =>
    let x := m.winRaw w
    if bitAt x 128 && fld x 127 96 != 0 then (m.ersMap (fun e => { e with win := tset e.win w (setFld x 128 128 0) })).ersEvent 4 else m)

end Sys2Proof.Machine
end

