-- ==== Sys2Proof/Machine/Collectives.lean ====
section
/-! DEFINITION. The collective engines: posting, matching, data, outputs, abandonment (R314 to R324). What travels between members, and
when, is log entry 20; the results are those of R316 to R318. -/

namespace Sys2Proof.Machine

/-! Descriptors (Table 12.10). -/
def cOp (x : Nat) : Nat := fld x 7 0
def cVl (x : Nat) : Nat := fld x 10 8
def cGroup (x : Nat) : Nat := fld x 31 16
def cTag (x : Nat) : Nat := fld x 63 32
def cIn (x : Nat) : Nat := fld x 67 64
def cForm (x : Nat) : Nat := fld x 71 68
def cOutF (x : Nat) : Nat := fld x 75 72
def cN (x : Nat) : Nat := fld x 145 106
def cSrc (x : Nat) : Nat := fld x 193 146
def cDst (x : Nat) : Nat := fld x 241 194
def cKind (x : Nat) : Nat := fld x 243 242
def cEntry (x : Nat) : Nat := fld x 255 244
def cDie (x : Nat) : Nat := fld x 257 256
def cStep (x : Nat) : Nat := fld x 305 258
def cChan (x : Nat) : Nat := fld x 321 306
def cRoot (x : Nat) : Nat := fld x 427 418
/-- The operation adds or joins: ALL_REDUCE, REDUCE_SCATTER, BARRIER, FLAG_OR. -/
def cJoins (x : Nat) : Bool := [1, 2, 5, 6].contains (cOp x)
/-- The operation carries records. -/
def cReduces (x : Nat) : Bool := cOp x == 1 || cOp x == 2
/-- Statuses (Table 12.16). -/
def collAbandoned : Nat := 0x0B01
def collMismatch : Nat := 0x0B02
def collFormat : Nat := 0x0B03
def collGroup : Nat := 0x0B04
def collTarget : Nat := 0x0B05

/-- Checks of COLL_FORMAT on a descriptor for a group of n members (R315 to R317, R319, R322). A maximum word that is not 4-byte aligned
(R47) and records that would not stand 32-byte aligned (R31) fail with it too (log entry 89). -/
def collBad (x n : Nat) : Bool :=
  let op := cOp x
  fld x 15 11 != 0 || fld x 511 460 != 0 || cKind x == 3 || !(decide (1 ≤ op) && decide (op ≤ 6)) || decide (cVl x < 4)
    || (cReduces x && (decide (8 < cIn x) || decide (cForm x < minForm (cIn x)) || decide (8 < cForm x) || decide (cForm x < 6)
        || decide (8 < cOutF x) || (decide (6 ≤ cOutF x) && decide (cOutF x < cForm x)) || decide (5 < fld x 78 76)))
    || ((op == 3 || op == 4) && decide (8 < cIn x)) || (op == 4 && decide (n ≤ cRoot x))
    || (op == 5 && cN x != 0) || (op == 6 && (cN x == 0 || decide (64 < cN x)))
    || (cKind x == 1 && !(cReduces x && decide (6 ≤ cOutF x))) || (cKind x == 2 && op != 5)
    || (cReduces x && decide (cOutF x ≤ 5) && fld x 369 322 % 4 != 0)
    || (cReduces x && decide (6 ≤ cOutF x) && cKind x == 0 && cDst x % 32 != 0)
    || ((op == 3 || op == 4) && decide (6 ≤ cIn x) && cDst x % 32 != 0)

/-! What travels (R316, R317; log entry 20). -/

/-- Bytes of one wire element, and their count in a group of n. -/
def cSize (x : Nat) : Nat := if cReduces x then fmtSize (cForm x) else if cJoins x then 8 else fmtSize (cIn x)
def cCount (x n : Nat) : Nat := if cOp x = 5 then n else cN x
def cTotal (x n : Nat) : Nat := cCount x n * cSize x
/-- Bytes a to b of a string. -/
def slice (l : List Byte) (a b : Nat) : List Byte := (l.drop a).take (b - a)
/-- First byte of segment j: elements floor(jN/n) on (Table 12.11). -/
def segAt (x n j : Nat) : Nat := j * cCount x n / n * cSize x
def seg (x n j : Nat) (l : List Byte) : List Byte := slice l (segAt x n j) (segAt x n (j + 1))
/-- Join two runs of wire elements: exact sums, or bitwise OR. -/
def cJoin (x : Nat) (p q : List Byte) : List Byte :=
  if cReduces x then
    ((chunks (cSize x) p).zip (chunks (cSize x) q)).flatMap (fun r =>
      natLE (cSize x) (((Epr.ofNat (cForm x) (leNat r.1)).add (Epr.ofNat (cForm x) (leNat r.2))).toNat (cForm x)))
  else (p.zip q).map (fun r => r.1 ||| r.2)

/-- Ring: what arrives from the predecessor, step by step, in bytes. -/
def ringIn (x n i : Nat) : List Nat :=
  let len (j : Nat) : Nat := segAt x n (j + 1) - segAt x n j
  if n ≤ 1 then []
  else if cJoins x then
    (List.range (n - 1)).map (fun s => len ((i + 2 * n - 2 - s) % n))
      ++ (if cOp x = 2 then [] else (List.range (n - 1)).map (fun s => len ((i + 2 * n - 1 - s) % n)))
  else if cOp x = 3 then List.replicate (n - 1) (cTotal x n)
  else if i = cRoot x then [] else [cTotal x n]
/-- Step s of a byte string cut into steps, once it is wholly there. -/
def stepOf (plan : List Nat) (r : List Byte) (s : Nat) : Option (List Byte) :=
  let a := (plan.take s).sum
  let b := a + nth 0 plan s
  if s < plan.length ∧ b ≤ r.length then some (slice r a b) else none
/-- Step s of what a rank sends its successor. -/
def ringOut (x n i : Nat) (own r : List Byte) (s : Nat) : Option (List Byte) :=
  let prev := stepOf (ringIn x n i) r (s - 1)
  if cJoins x then
    if s = 0 then some (seg x n ((i + 2 * n - 1) % n) own)
    else if s < n then prev.map (fun p => cJoin x (seg x n ((i + 2 * n - 1 - s) % n) own) p)
    else prev
  else if cOp x = 3 then (if s = 0 then some own else prev)
  else if i = cRoot x then some own else stepOf (ringIn x n i) r 0
/-- Steps a rank sends its successor. -/
def ringSteps (x n i : Nat) : Nat :=
  if n ≤ 1 then 0
  else if cJoins x then (if cOp x = 2 then n - 1 else 2 * (n - 1))
  else if cOp x = 3 then n - 1
  else if (i + 1) % n = cRoot x then 0 else 1
/-- The wire result under ALG 0. -/
def ringResult (x n i : Nat) (own r : List Byte) : Option (List Byte) :=
  if n ≤ 1 then some own
  else if cJoins x then
    match stepOf (ringIn x n i) r (n - 2) with
    | none => none
    | some p =>
      let mine := cJoin x (seg x n i own) p
      if cOp x = 2 then some mine
      else
        let part (j : Nat) : Option (List Byte) := if j = i then some mine else stepOf (ringIn x n i) r (n - 1 + (i + 2 * n - 1 - j) % n)
        let ps := (List.range n).map part
        if ps.all Option.isSome then some (ps.flatMap (fun p => p.getD [])) else none
  else if cOp x = 3 then
    let part (j : Nat) : Option (List Byte) := if j = i then some own else stepOf (ringIn x n i) r ((i + 2 * n - 1 - j) % n)
    let ps := (List.range n).map part
    if ps.all Option.isSome then some (ps.flatMap (fun p => p.getD [])) else none
  else if i = cRoot x then some own else stepOf (ringIn x n i) r 0

/-- Binomial tree rooted at rank 0: lowest set bit, children, parent, ranks below. -/
def lowBit (i : Nat) : Nat := if i = 0 then 1024 else 2 ^ (((List.range 10).find? i.testBit).getD 0)
def treeKids (n i : Nat) : List Nat := (((List.range 10).map (fun k => 2 ^ k)).filter (fun b => decide (b < lowBit i) && decide (i + b < n))).map (fun b => i + b)
def treeUp (i : Nat) : Nat := i - lowBit i
def treeSize (n i : Nat) : Nat := Nat.min (lowBit i) (n - i)
/-- Bytes rank i sends its parent; bytes that go down to it. -/
def upBytes (x n i : Nat) : Nat :=
  if cJoins x then cTotal x n else if cOp x = 3 then treeSize n i * cTotal x n
  else if i ≤ cRoot x ∧ cRoot x < i + treeSize n i then cTotal x n else 0
def downBytes (x n : Nat) : Nat := if cOp x = 3 then n * cTotal x n else cTotal x n
/-- A whole stream, once it is there. -/
def whole (r : List Byte) (k : Nat) : Option (List Byte) := if k ≤ r.length then some (r.take k) else none
/-- What rank i's part of the tree comes to. -/
def treeValue (x n i : Nat) (own : List Byte) (recv : Nat → List Byte) : Option (List Byte) :=
  let ks := (treeKids n i).map (fun k => whole (recv k) (upBytes x n k))
  if !ks.all Option.isSome then none
  else
    let vs := ks.map (fun k => k.getD [])
    if cJoins x then some (vs.foldl (cJoin x) own)
    else if cOp x = 3 then some (own ++ vs.flatten)
    else if i = cRoot x then some own else some vs.flatten
/-- The whole result as it goes down the tree. -/
def treeDown (x n i : Nat) (own : List Byte) (recv : Nat → List Byte) : Option (List Byte) :=
  if i = 0 then treeValue x n i own recv else whole (recv (treeUp i)) (downBytes x n)

/-- Streams a rank receives: (rank, bytes). -/
def inPlan (x alg n i : Nat) : List (Nat × Nat) :=
  (if alg = 0 then [((i + n - 1) % n, (ringIn x n i).sum)]
   else (treeKids n i).map (fun k => (k, upBytes x n k)) ++ (if i = 0 then [] else [(treeUp i, downBytes x n)])).filter (fun p => p.2 != 0)
/-- A stream a rank sends: what of it is there. -/
def outStream (x alg n i : Nat) (own : List Byte) (recv : Nat → List Byte) (dest : Nat) : List Byte :=
  if alg = 0 then
    let r := recv ((i + n - 1) % n)
    let st := (List.range (ringSteps x n i)).map (ringOut x n i own r)
    (st.takeWhile Option.isSome).flatMap (fun p => p.getD [])
  else if dest = treeUp i ∧ i ≠ 0 then (treeValue x n i own recv).getD []
  else (treeDown x n i own recv).getD []
/-- Streams a rank sends: (rank, bytes). -/
def outPlan (x alg n i : Nat) : List (Nat × Nat) :=
  (if alg = 0 then
     let j := (i + 1) % n
     [(j, (ringIn x n j).sum)]
   else (treeKids n i).map (fun k => (k, downBytes x n)) ++ (if i = 0 then [] else [(treeUp i, upBytes x n i)])).filter (fun p => p.2 != 0 && p.1 != i)
/-- The wire result at rank i (Table 12.11). -/
def cResult (x alg n i : Nat) (own : List Byte) (recv : Nat → List Byte) : Option (List Byte) :=
  if alg = 0 then ringResult x n i own (recv ((i + n - 1) % n))
  else (treeDown x n i own recv).map (fun l => if cOp x = 2 then seg x n i l else l)

/-! Engine accesses (R140, R259). -/

/-- A collective engine writes memory for a command. -/
def Mod.cWrite (m : Mod) (eng c a : Nat) (bs : List Byte) : Mod := m.issue (collId eng) 4 0 c a bs
/-- Bytes of inputs that a descriptor reads at SRC. -/
def cInLen (x n i : Nat) : Nat :=
  if cReduces x then cN x * fmtSize (cIn x) else if cOp x = 5 then 0 else if cOp x = 6 then cN x * 8
  else if cOp x = 3 ∨ i % max n 1 = cRoot x then cN x * fmtSize (cIn x) else 0
/-- Wire inputs of a descriptor (R316, R317). -/
def Mod.cInputs (m : Mod) (eng c x n i : Nat) : Option (List Byte) × Mod :=
  let get (k : Nat) : Option (List Byte) × Mod := m.fetch (collId eng) c (cSrc x) (cN x * k)
  if cReduces x then
    let r := get (fmtSize (cIn x))
    (r.1.map (fun bs => (chunks (fmtSize (cIn x)) bs).flatMap (fun b => natLE (cSize x) ((Epr.ofFmt (cIn x) (leNat b)).toNat (cForm x)))), r.2)
  else if cOp x = 5 then (some (List.replicate (8 * n) 0), m)
  else if cOp x = 6 then get 8
  else if cOp x = 3 ∨ i = cRoot x then get (fmtSize (cIn x))
  else (some [], m)

/-! Collectives of an engine. -/

def Mod.colls (m : Mod) (x : Nat) : List Coll := tget [] m.ers.coll x
def Mod.setColls (m : Mod) (x : Nat) (l : List Coll) : Mod := m.ersMap (fun e => { e with coll := tset e.coll x l })
def Mod.putColl (m : Mod) (x i : Nat) (c : Coll) : Mod := m.setColls x (lset (m.colls x) i c)
/-- This module's rank in a group. -/
def Mod.rankIn (m : Mod) (g : Nat) : Nat := (m.members g).findIdx (fun k => k == m.ers.mid)
def Mod.algOf (m : Mod) (g : Nat) : Nat := fld (tget 0 m.ers.group g) 33 31
/-- Bytes received from a MID, from position 0 on without a gap. -/
def Coll.got (c : Coll) (mid : Nat) : List Byte :=
  (tget [] c.rx mid).foldl (fun l p => if p.1 = l.length then l ++ p.2 else l) []
/-- The same by rank. -/
def Mod.recvOf (m : Mod) (c : Coll) (r : Nat) : List Byte := c.got (nth 0 (m.members (cGroup c.raw)) r)
/-- Control flits of a key, from the engine of an I/O die (Table 12.3). -/
def Mod.ctl (m : Mod) (eng typ dst x keyC : Nat) (payload : List Byte) : Mod :=
  if dst = m.ers.mid then m
  else m.forward (4 + eng) none { mkFlit typ 0 dst m.ers.mid with keyA := cGroup x, keyB := cTag x, keyC := keyC, payload := payload }
def readyKeyC (x space rank : Nat) : Nat := cOp x + 2 ^ 8 * cForm x + 2 ^ 12 * space + 2 ^ 14 * rank
/-- READY to the members data will come from and has not begun to (R319). -/
def Mod.sendReady (m : Mod) (eng : Nat) (c : Coll) : Mod :=
  let g := cGroup c.raw
  let ms := m.members g
  let i := m.rankIn g
  (inPlan c.raw (m.algOf g) ms.length i).foldl (fun m p =>
    let mid := nth 0 ms p.1
    if (tget [] c.rx mid).isEmpty then m.ctl eng 0x20 mid c.raw (readyKeyC c.raw c.space i) (natLE 5 (cN c.raw)) else m) m
/-- ABANDON to every other member (R321). -/
def Mod.sendAbandon (m : Mod) (eng x space status cause : Nat) : Mod :=
  (m.members (cGroup x)).foldl (fun m mid => m.ctl eng 0x22 mid x (status + 2 ^ 16 * cause + 2 ^ 26 * space) []) m
/-- The completion message (Table 12.12). -/
def collMsg (x status cause : Nat) : List Byte :=
  natLE 2 status ++ natLE 2 (cGroup x) ++ natLE 4 (cTag x) ++ natLE 1 (cOp x) ++ natLE 1 0 ++ natLE 2 cause ++ List.replicate 52 0
def Mod.sendCollMsg (m : Mod) (c : Coll) (status cause : Nat) : Mod :=
  if c.space ≠ 0 ∨ cChan c.raw = 0xFFFF then m
  else { m with msgs := m.msgs ++ [⟨c.ctx, cChan c.raw, collMsg c.raw status cause, scTile c.by_, 2⟩] }
/-- A key this module had posted is abandoned or has failed: later data for it is discarded and counted, and nothing is kept of it (R321). -/
def Mod.markDead (m : Mod) (x space status cause : Nat) : Mod :=
  m.ersMap (fun e =>
    let others := e.dead.filter (fun k => !(k.group == cGroup x && k.space == space && k.tag == cTag x))
    { e with dead := ⟨cGroup x, space, cTag x, true, status, cause⟩ :: others,
             ready := e.ready.filter (fun r => !(r.group == cGroup x && r.space == space && r.tag == cTag x)) })
/-- A flit of this module's own for a key: READY and ALIVE of a space, and data, which carries no space. -/
def ownFlit (x space : Nat) (q : Option Nat × Flit) : Bool :=
  q.1.isNone && q.2.keyA == cGroup x && q.2.keyB == cTag x &&
    (q.2.typ == 0x23 || ((q.2.typ == 0x20 || q.2.typ == 0x21) && fld q.2.keyC 13 12 == space))
/-- Nothing further is sent for a key: what of it still waits here is taken back (R321). -/
def Mod.unsend (m : Mod) (x space : Nat) : Mod :=
  m.ersMap (fun e => { e with port := e.port.map (fun p => (p.1, { p.2 with txq := p.2.txq.filter (fun q => !ownFlit x space q) })),
                              heldF := e.heldF.filter (fun h => !ownFlit x space h.2.2),
                              crossing := e.crossing.filter (fun h => !ownFlit x space h.2) })
/-- A data flit of a key has not left for its receiver, or its receipt is not acknowledged (R300, R324). -/
def Mod.unsent (m : Mod) (x : Nat) : Bool :=
  let mine (f : Flit) : Bool := f.typ == 0x23 && f.src == m.ers.mid && f.keyA == cGroup x && f.keyB == cTag x
  m.ers.port.any (fun p => p.2.txq.any (fun q => mine q.2) || p.2.retry.any mine) || m.ers.heldF.any (fun h => mine h.2.2.2)
    || m.ers.crossing.any (fun h => mine h.2.2)
/-- Bytes that the outputs occupy in memory. -/
def outBytes (x n i : Nat) : Nat :=
  if cKind x ≠ 0 then 0
  else match cOp x with
    | 1 => cN x * fmtSize (cOutF x)
    | 2 => ((i + 1) * cN x / n - i * cN x / n) * fmtSize (cOutF x)
    | 3 => n * cN x * fmtSize (cIn x)
    | 4 => cN x * fmtSize (cIn x)
    | 6 => cN x * 8
    | _ => 0
/-- Collective i of engine x ends abandoned: its outputs are undefined, a Groomer it was feeding drops what it received, its message
leaves (R321). -/
def Mod.abandon (m : Mod) (x i status cause : Nat) (notify : Bool) : Mod :=
  match (m.colls x)[i]? with
  | none => m
  | some c =>
    let g := cGroup c.raw
    let n := (m.members g).length
    let k := if c.space = 0 ∧ !c.fin then outBytes c.raw n (m.rankIn g) else 0
    let m1 := ((m.setColls x (ldel (m.colls x) i)).markDead c.raw c.space status cause).unsend c.raw c.space
    let m2 := if notify then m1.sendAbandon x c.raw c.space status cause else m1
    let may : Bool := mapped (cDst c.raw) k && (match targetOf (cDst c.raw) with
      | .sp mt => (List.range ((cDst c.raw + k - 1 - spBase) / 0x400000 + 1 - mt)).all (fun j => m.tenOk (mt + j) (tenOf c.ctx))
      | _ => true)
    let m3 := if k = 0 ∨ !may then m2 else m2.undefine (collId x) (cDst c.raw) k
    let m4 := if c.space = 0 ∧ cKind c.raw = 1 ∧ c.fed then m3.gDrop (cDie c.raw) else m3
    (m4.sendCollMsg c status cause).owe c.owe

/-! Outputs (R316, R317, R322). -/

/-- One output of a reduction: its bytes in OUT_FMT, and the magnitude a rounding records. -/
def cOutput (x seed e : Nat) (r : Epr) : List Byte × Nat :=
  if 6 ≤ cOutF x then (natLE (fmtSize (cOutF x)) (r.toNat (cOutF x)), 0)
  else
    let rnd : Rnd := { rc := fld x 78 76, sat := bitAt x 79, srw := fld x 81 80, seed := seed, tensor := fld x 105 90, elem := fld x 417 370 + e }
    (natLE (fmtSize (cOutF x)) (convertNum (cOutF x) rnd (sgn 8 (fld x 89 82)) r.num), maxPattern r.num)
/-- The wire result is there: outputs are written, or handed to a Groomer as records. -/
def Mod.cDeliver (m : Mod) (x i : Nat) (c : Coll) (res : List Byte) : Mod :=
  let raw := c.raw
  let g := cGroup raw
  let n := (m.members g).length
  let r := m.rankIn g
  if c.space ≠ 0 then m.putColl x i { c with fin := true, out := res }
  else if cReduces raw then
    let recs := (chunks (cSize raw) res).map leNat
    if cKind raw = 1 then m.putColl x i { c with fin := true, feed := recs }
    else
      let first := if cOp raw = 2 then r * cN raw / n else 0
      let outs := recs.zipIdx.map (fun p => cOutput raw (m.cx c.ctx).seed (first + p.2) (Epr.ofNat (cForm raw) p.1))
      let m1 := (m.putColl x i { c with fin := true }).cWrite x c.ctx (cDst raw) (outs.flatMap (·.1))
      if cOutF raw ≤ 5 then m1.update 0 (fld raw 369 322) (outs.foldl (fun a p => max a p.2) 0) c.ctx (collId x) 4 else m1
  else if cOp raw = 5 then m.putColl x i { c with fin := true }
  else (m.putColl x i { c with fin := true }).cWrite x c.ctx (cDst raw) res
/-- Data goes to every member whose READY is here, as far as it is known (R319). -/
def Mod.cSend (m : Mod) (x i : Nat) : Mod :=
  match (m.colls x)[i]? with
  | none => m
  | some c =>
    let g := cGroup c.raw
    let ms := m.members g
    let r := m.rankIn g
    (outPlan c.raw (m.algOf g) ms.length r).foldl (fun m p =>
      let mid := nth 0 ms p.1
      match (m.colls x)[i]? with
      | none => m
      | some c =>
        if !c.heard.contains mid then m
        else
          let s := outStream c.raw (m.algOf g) ms.length r c.inp (m.recvOf c) p.1
          let at' := tget 0 c.sent mid
          let m1 := (m.putColl x i { c with sent := tset c.sent mid s.length }).charge c.ctx 9 (s.length - at')
          (chunks 224 (s.drop at')).zipIdx.foldl (fun m q =>
            m.forward (4 + x) none { mkFlit 0x23 (cVl c.raw) mid m.ers.mid with keyA := g, keyB := cTag c.raw, keyC := at' + 224 * q.2, payload := q.1,
                                                                                last := at' + 224 * q.2 + q.1.length == p.2 }) m1) m
/-- A collective goes as far as it can; an engine of an I/O die in DEEP is off, and raises its die (R17, R18, R21). -/
def Mod.cPump (m : Mod) (x i : Nat) : Mod :=
  if m.sleeps (4 + x) then m.wakeTo (4 + x) 1
  else
  let m1 := m.cSend x i
  match (m1.colls x)[i]? with
  | none => m1
  | some c =>
    if c.fin then m1
    else
      let g := cGroup c.raw
      match cResult c.raw (m1.algOf g) (m1.members g).length (m1.rankIn g) c.inp (m1.recvOf c) with
      | some res => m1.cDeliver x i c res
      | none => m1
/-- A Groomer takes records of the descriptor it serves, up to its queue of 512 (R268, R272, R322). -/
def Mod.feedGroomer (m : Mod) (d : Nat) : Mod :=
  [0, 1].foldl (fun m x =>
    (List.range (m.colls x).length).foldl (fun m i =>
      match (m.colls x)[i]? with
      | none => m
      | some c =>
        if c.space ≠ 0 ∨ cKind c.raw ≠ 1 ∨ cDie c.raw ≠ d ∨ !c.fin ∨ c.feed.isEmpty then m
        else
          let start := !c.fed && m.gCanStart d (cStep c.raw) (cEntry c.raw)
          let m1 := if start then m.gStart d c.ctx (cStep c.raw) (cEntry c.raw) (cForm c.raw) else m
          if !(c.fed || (start && (m1.g d).cur.isSome)) then m1
          else
            let k := 512 - (m1.g d).inq.length
            let c1 := { c with fed := true, feed := c.feed.drop k, owe := if (c.feed.drop k).isEmpty then [] else c.owe }
            let m2 := (m1.putColl x i c1).gput d { m1.g d with inq := (m1.g d).inq ++ c.feed.take k }
            if c1.feed.isEmpty then m2.owe c.owe else m2) m) m

/-! Posting (R314, R315, R319, R322). -/

/-- A kept READY differs from a descriptor (R319). -/
def readyDiffers (r : Ready) (x : Nat) : Bool := !(r.op == cOp x && r.form == cForm x && r.n == cN x)
/-- A descriptor fails its check: every member hears of it, and its message leaves (R319, R321). -/
def Mod.failPost (m : Mod) (x : Nat) (c : Coll) (status : Nat) : Mod :=
  ((m.markDead c.raw c.space status m.ers.mid).sendAbandon x c.raw c.space status m.ers.mid).sendCollMsg c status m.ers.mid
/-- The group is not VALID, or does not list this module (R319). -/
def Mod.noGroup (m : Mod) (g : Nat) : Bool := (tget? m.ers.group g).isNone || !(m.members g).contains m.ers.mid
/-- The engine of IOD[x] takes a descriptor whose fields are good: a bad group fails it; the key's earlier READYs are taken, READY goes out,
data begins (R319); a key that an ABANDON reached before the post is abandoned with that flit's status and MID (R321). -/
def Mod.takeColl (m : Mod) (x : Nat) (c : Coll) : Mod :=
  if m.noGroup (cGroup c.raw) then m.failPost x c collGroup
  else
    let mine (r : Ready) : Bool := r.group == cGroup c.raw && r.space == c.space && r.tag == cTag c.raw
    let isKey (k : DeadKey) : Bool := k.group == cGroup c.raw && k.space == c.space && k.tag == cTag c.raw
    let dead := m.ers.dead.find? (fun k => isKey k && !k.mine)
    let rs := m.ers.ready.filter mine
    let i := (m.colls x).length
    let m1 := (m.ersMap (fun e => { e with ready := e.ready.filter (fun r => !mine r), dead := e.dead.filter (fun k => !isKey k) })).setColls x
      (m.colls x ++ [{ c with heard := c.heard ++ rs.map (·.src) }])
    match dead, rs.find? (fun r => readyDiffers r c.raw) with
    | some k, _ => m1.abandon x i k.status k.cause false
    | none, some r => m1.abandon x i collMismatch r.src true
    | none, none => (m1.sendReady x c).cPump x i
/-- A descriptor is posted. An engine whose I/O die is in DEEP, its clock stopped, takes it once the die is awake (R17, R21). -/
def Mod.post (m : Mod) (x : Nat) (c : Coll) : Mod :=
  if m.sleeps (4 + x) then (m.wakeTo (4 + x) 1).setColls x (m.colls x ++ [{ c with idle := true }]) else m.takeColl x c
/-- The I/O die of an engine is awake: it takes what was posted meanwhile, and its collectives go on (R21). -/
def Mod.wakeColls (m : Mod) (x : Nat) : Mod :=
  let late := (m.colls x).filter (fun c => c.idle)
  let m1 := late.foldl (fun m c => m.takeColl x { c with idle := false }) (m.setColls x ((m.colls x).filter (fun c => !c.idle)))
  ((m1.colls x).map (fun c => (cGroup c.raw, c.space, cTag c.raw))).foldl (fun m k =>
    match (m.colls x).findIdx? (fun c => (cGroup c.raw, c.space, cTag c.raw) == k) with
    | some i => m.cPump x i
    | none => m) m1
/-- Target checks of a Groomer descriptor (R322). -/
def Mod.targetBad (m : Mod) (x c : Nat) : Bool :=
  cKind x == 1 && ((m.die (cDie x)).ctx != some c || m.gEntries (cDie x) == 0 || decide (m.gEntries (cDie x) ≤ cEntry x))
/-- The engine of IOD[x] takes one descriptor of an S-core (R319). -/
def Mod.takeDesc (m : Mod) (n x c a : Nat) : Mod :=
  match m.fetch (collId x) c a 64 with
  | (none, m1) => m1
  | (some bs, m1) =>
    let raw := leNat bs
    let g := cGroup raw
    let ms := m1.members g
    let fail (m : Mod) (st : Nat) : Mod := m.failPost x { raw := raw, ctx := c, by_ := n } st
    if collBad raw ms.length && (tget? m1.ers.group g).isSome then fail m1 collFormat
    else if m1.noGroup g then fail m1 (if collBad raw 1024 then collFormat else collGroup)
    else if m1.targetBad raw c then fail m1 collTarget
    else
      match m1.cInputs x c raw ms.length (m1.rankIn g) with
      | (none, m2) => m2
      | (some inp, m2) =>
        let m3 := m2.post x { raw := raw, ctx := c, by_ := n, inp := inp }
        if cKind raw = 1 then (m3.gPlace (cDie raw) c (cStep raw) (cEntry raw)).feedGroomer (cDie raw) else m3
/-- A range that the engine reads can be reached now, or is no range of the map, which the read will find (R16, R21). -/
def Mod.reaches (m : Mod) (x a n : Nat) : Bool := n == 0 || !mapped a n || m.awake (4 + x) a n
/-- The engine takes k descriptors of a post area from position t on, advancing TAKEN; it waits before one that it cannot read yet (R21,
R314). -/
def Mod.takeDescs : Nat → Mod → Nat → Nat → Nat → Nat → Nat → Mod
  | 0, m, _, _, _, _, _ => m
  | k + 1, m, n, x, c, bell, t =>
    let a := bell - 0x1000 + 64 * (t % 64)
    let raw := leNat (mread 0 (m.view (collId x)) a 64)
    let len := cInLen raw (m.members (cGroup raw)).length (m.rankIn (cGroup raw))
    if !m.reaches x a 64 then m.park (collId x) a 64
    else if !m.reaches x (cSrc raw) len then m.park (collId x) (cSrc raw) len
    else
      let t1 := (t + 1) % 2 ^ 32
      (((m.takeDesc n x c a).ersMap (fun e => { e with taken := tset e.taken (64 * x + n) t1 })).cWrite x c (bell + 4) (natLE 4 t1)).takeDescs k n x c bell t1
/-- POSTED_NOTIFY: the engine of IOD[x] reads the doorbell of S-core n and takes its descriptors, or raises POST_FAULT (R314). The notice
stands until every descriptor is taken. -/
def Mod.posted (m : Mod) (n x : Nat) : Mod :=
  let k := 64 * x + n
  let drop (m : Mod) : Mod := m.ersMap (fun e => { e with notice := e.notice.filter (fun j => j != k) })
  if !m.ers.notice.contains k then m
  else if m.sleeps (4 + x) then m.wakeTo (4 + x) 1
  else
    match (m.die (n / 16)).ctx with
    | none => drop m
    | some c =>
      if m.ers.stopped.contains k || !m.ld.started then drop m
      else
        let bell := m.bell n x
        match m.fetch (collId x) c bell 4 with
        | (none, m1) => m1
        | (some bs, m1) =>
          let p := leNat bs
          let t := tget 0 m1.ers.taken k
          let diff := (p + 2 ^ 32 - t) % 2 ^ 32
          if 64 < diff then
            ((drop m1).ersMap (fun e => { e with stopped := k :: e.stopped })).cmdFault c 0x0811 (p + n * 2 ^ 48 + x * 2 ^ 56)
          else
            let m2 := m1.takeDescs diff n x c bell t
            if tget 0 m2.ers.taken k = p then drop m2 else m2
/-- POSTED_NOTIFY (R314). -/
def execPostedNotify (n x : Nat) (s : State) : Host.Outcome State Fault Refusal :=
  .next (s.on fun m => if n < 64 ∧ x < 2 then m.posted n x else m)

/-! Flits of collectives (R319 to R321). -/

/-- The collective of a key: engine and index. -/
def Mod.findColl (m : Mod) (g space tag : Nat) : Option (Nat × Nat) :=
  [0, 1].findSome? (fun x => ((m.colls x).findIdx? (fun c => cGroup c.raw == g && c.space == space && cTag c.raw == tag)).map (fun i => (x, i)))
/-- The key was abandoned here. -/
def Mod.isDead (m : Mod) (g space tag : Nat) : Bool := m.ers.dead.any (fun k => k.group == g && k.space == space && k.tag == tag)
/-- READY: matched, kept, or answered by ALIVE (R319). -/
def execFlitReady (p : Nat) (f : Flit) (s : State) : Host.Outcome State Fault Refusal :=
  .next (s.on fun m => m.rx1 p 0x20 f (fun m =>
    let r : Ready := ⟨p / 16, f.keyA, fld f.keyC 13 12, f.keyB, f.src, fld f.keyC 7 0, fld f.keyC 11 8, leNat (f.payload.take 5)⟩
    match m.findColl f.keyA r.space f.keyB with
    | some (x, i) =>
      match (m.colls x)[i]? with
      | none => m
      | some c =>
        if !(m.members f.keyA).contains f.src then m
        else if readyDiffers r c.raw then m.abandon x i collMismatch f.src true
        else (m.putColl x i { c with heard := linsert f.src c.heard }).cPump x i
    | none =>
      let same (k : Ready) : Bool := k.group == r.group && k.space == r.space && k.tag == r.tag && k.src == r.src
      if m.isDead f.keyA r.space f.keyB then m
      else if m.ers.ready.any same then m.ersMap (fun e => { e with ready := e.ready.map (fun k => if same k then r else k) })
      else if (m.ers.ready.filter (fun k => k.eng == r.eng)).length < 4096 then m.ersMap (fun e => { e with ready := e.ready ++ [r] })
      else m.forward (portDie p) none { mkFlit 0x21 0 f.src m.ers.mid with keyA := f.keyA, keyB := f.keyB, keyC := 2 ^ 12 * r.space }))
/-- ALIVE: the member that awaits restarts its timer; timers are commands, so nothing else changes (R320). -/
def execFlitAlive (p : Nat) (f : Flit) (s : State) : Host.Outcome State Fault Refusal :=
  .next (s.on fun m => m.rx1 p 0x21 f (fun m => m))
/-- ABANDON: the key is abandoned here as well, posted or not (R321). -/
def execFlitAbandon (p : Nat) (f : Flit) (s : State) : Host.Outcome State Fault Refusal :=
  .next (s.on fun m => m.rx1 p 0x22 f (fun m =>
    let space := fld f.keyC 27 26
    match m.findColl f.keyA space f.keyB with
    | some (x, i) => m.abandon x i (fld f.keyC 15 0) (fld f.keyC 25 16) false
    | none =>
      if m.isDead f.keyA space f.keyB then m
      else m.ersMap (fun e => { e with dead := ⟨f.keyA, space, f.keyB, false, fld f.keyC 15 0, fld f.keyC 25 16⟩ :: e.dead,
                                       ready := e.ready.filter (fun r => !(r.group == f.keyA && r.space == space && r.tag == f.keyB)) })))
/-- The collective that awaits data of a key from a sender; COLL_DATA carries no SPACE, so the first of SPACE 0, 1, 2 (log entry 21). -/
def Mod.awaits (m : Mod) (f : Flit) : Option (Nat × Nat) :=
  [0, 1, 2].findSome? (fun sp => match m.findColl f.keyA sp f.keyB with
    | some (x, i) =>
      match (m.colls x)[i]? with
      | some c =>
        let ms := m.members f.keyA
        if cVl c.raw == f.vl && (inPlan c.raw (m.algOf f.keyA) ms.length (m.rankIn f.keyA)).any (fun p => nth 0 ms p.1 == f.src && decide ((c.got f.src).length < p.2))
        then some (x, i) else none
      | none => none
    | none => none)
/-- A collective on the lane whose Groomer does not take its records: the lane's credits are withheld (R272, R322). -/
def Mod.stuck (m : Mod) (vl : Nat) : Option (Nat × Nat) :=
  [0, 1].findSome? (fun x => ((m.colls x).findIdx? (fun c => cVl c.raw == vl && !c.feed.isEmpty)).map (fun i => (x, i)))
/-- COLL_DATA: data of a peer's stream; data for an abandoned key is discarded and counted (R317, R321). -/
def execFlitCollData (p : Nat) (f : Flit) (s : State) : Host.Outcome State Fault Refusal :=
  .next (s.on fun m => m.rx p 0x23 f (fun m =>
    match m.awaits f with
    | none => (if [0, 1, 2].any (fun sp => m.isDead f.keyA sp f.keyB) then m.bump 0x600310 1 else m, true)
    | some (x, i) =>
      match (m.colls x)[i]? with
      | none => (m, true)
      | some c =>
        let c1 := { c with rx := tset c.rx f.src (tset (tget [] c.rx f.src) (f.keyC % 2 ^ 48) f.payload) }
        let m1 := ((m.putColl x i c1).charge c.ctx 10 f.payload.length).cPump x i
        let m2 := if c.space = 0 ∧ cKind c.raw = 1 then m1.feedGroomer (cDie c.raw) else m1
        match m2.stuck f.vl with
        | some (y, j) =>
          match (m2.colls y)[j]? with
          | some k => (m2.putColl y j { k with owe := k.owe ++ [(p, f.vl)] }, false)
          | none => (m2, true)
        | none => (m2, true)))
/-- COLLECTIVE_TIMEOUT: nothing came from an awaited member for ERS_COLL_TIMEOUT (R320). -/
def execCollectiveTimeout (x idx rank : Nat) (s : State) : Host.Outcome State Fault Refusal :=
  .next (s.on fun m =>
    match (m.colls x)[idx]? with
    | none => m
    | some c =>
      let ms := m.members (cGroup c.raw)
      let mid := nth 0 ms rank
      if (inPlan c.raw (m.algOf (cGroup c.raw)) ms.length (m.rankIn (cGroup c.raw))).any (fun p => p.1 == rank && decide ((c.got mid).length < p.2)) then
        m.using [0x600018] (fun m => m.abandon x idx collAbandoned mid true)
      else m)
/-- A command runs, or a READY context holds unresolved commands (R320). -/
def Mod.workHere (m : Mod) : Bool := m.safe.ctx.any (fun p => p.2.run.isSome || (p.2.state == 1 && p.2.producer != p.2.consumer))
/-- Data of a posted key for a member is held back for want of credits, or because a Groomer does not take records, which withholds
credits on the key's lane (R320, R322). -/
def Mod.heldBack (m : Mod) (c : Coll) (mid plan : Nat) : Bool :=
  let mine (q : Option Nat × Flit) : Bool := ownFlit c.raw c.space q && q.2.typ == 0x23 && q.2.dst == mid
  m.ers.port.any (fun p => p.2.txq.any mine) || m.ers.heldF.any (fun h => mine h.2.2)
    || m.ers.crossing.any (fun h => mine h.2)
    || (decide (tget 0 c.sent mid < plan) && (!c.feed.isEmpty || (m.stuck (cVl c.raw)).isSome))
/-- ALIVE_INTERVAL: READY is repeated where data has not begun; ALIVE goes to members that await this one (R319, R320). -/
def execAliveInterval (x : Nat) (s : State) : Host.Outcome State Fault Refusal :=
  .next (s.on fun m =>
    if m.mon.fltState ≠ 0 ∨ m.sleeps (4 + x) then m
    else m.using [0x60001C] fun m =>
      let m1 := (m.colls x).foldl (fun m c =>
        let g := cGroup c.raw
        let ms := m.members g
        (outPlan c.raw (m.algOf g) ms.length (m.rankIn g)).foldl (fun m p =>
          let mid := nth 0 ms p.1
          if c.heard.contains mid && m.heldBack c mid p.2 then m.ctl x 0x21 mid c.raw (2 ^ 12 * c.space) [] else m) (m.sendReady x c)) m
      if m.workHere then
        (m1.ers.ready.filter (fun r => r.eng == x)).foldl (fun m r =>
          m.forward (4 + x) none { mkFlit 0x21 0 r.src m.ers.mid with keyA := r.group, keyB := r.tag, keyC := 2 ^ 12 * r.space }) m1
      else m1)
/-- COLLECTIVE_COMPLETE: outputs are complete at module scope or accepted, all data has been sent and acknowledged, and its receivers have
consumed it, which the command says: the message leaves, a commit is released (R323, R324). -/
def execCollectiveComplete (x idx : Nat) (s : State) : Host.Outcome State Fault Refusal :=
  .next (s.on fun m =>
    match (m.colls x)[idx]? with
    | none => m
    | some c =>
      let ms := m.members (cGroup c.raw)
      let sent := (outPlan c.raw (m.algOf (cGroup c.raw)) ms.length (m.rankIn (cGroup c.raw))).all (fun p => decide (p.2 ≤ tget 0 c.sent (nth 0 ms p.1)))
      if c.space = 0 ∧ c.fin ∧ c.feed.isEmpty ∧ sent ∧ !m.unsent c.raw ∧ m.noneLeft (fun u _ k => u == collId x && k == c.ctx) then
        let m1 := (m.setColls x (ldel (m.colls x) idx)).sendCollMsg c 0 0
        if cKind c.raw = 2 then m1.releaseCommit (fld c.raw 459 428) else m1
      else m)
/-- Every key of a command that is not complete is abandoned (R321). -/
def Mod.abandonAll : Nat → Mod → Nat → Mod
  | 0, m, _ => m
  | k + 1, m, c =>
    match [0, 1].findSome? (fun x => ((m.colls x).findIdx? (fun l => l.ctx == c)).map (fun i => (x, i))) with
    | some (x, i) => (m.abandon x i collAbandoned m.ers.mid true).abandonAll k c
    | none => m

end Sys2Proof.Machine
end

