-- ==== Sys2Proof/Machine/Groomer.lean ====
section
/-! DEFINITION. The Groomer at work: gradients, blocks, checks, reports, digests, the step's boundary, the hold-off (R269 to R293). -/

namespace Sys2Proof.Machine

/-- The Groomer writes memory for its command, under its own number; tiles do not check it (R140, R269). -/
def Mod.gWrite (m : Mod) (d c a : Nat) (bs : List Byte) : Mod := m.issue (groomerId d) 4 0 c a bs
/-- FP32 words from the Groomer's scratchpad areas. -/
def Mod.gWords (m : Mod) (d c a n : Nat) : Option (List Nat) × Mod :=
  let r := m.gGet d c a (4 * n)
  (r.1.map (fun bs => (chunks 4 bs).map leNat), r.2)
/-- Block i of an entry. -/
def GEnt.addr (e : GEnt) (i : Nat) : Nat := gState e.raw + 256 * i
/-- A block of the window. -/
def Groomer.find (g : Groomer) (a : Nat) : Option GBlk := g.win.find? (fun b => b.addr == a)
/-- Blocks of an entry in a list of addresses. -/
def GEnt.own (e : GEnt) (a : Nat) : Bool := decide (gState e.raw ≤ a) && decide (a < gState e.raw + 256 * gBlocks e.raw)
/-- Parameters of block i. -/
def GEnt.params (e : GEnt) (i : Nat) : Nat := Nat.min 15 (gN e.raw - 15 * i)
/-- A digest is due for the entry's step (R289). -/
def GEnt.due (e : GEnt) : Bool := gEvery e.raw != 0 && e.step % gEvery e.raw == 0 && e.held != 3

/-! Blocks. -/

/-- The write stage admits a block (R291). -/
def Groomer.admits (g : Groomer) : Bool := decide (g.stage.length < 64) && !g.stopped
/-- Block i of an entry leaves the window for the write stage: nothing is written for a block already at step T; the working copies are
derived unless the block is held (R280, R286, R289, R293). -/
def Mod.gStage (m : Mod) (d : Nat) (e : GEnt) (i : Nat) (b : GBlk) (bs : List Byte) (held : Bool) : GEnt × Mod :=
  let g := m.g d
  let seed := (m.cx e.ctx).seed
  let cps := if held then [] else (List.range (e.params i)).map (fun k => (15 * i + k, gCopy e.raw seed e.step (15 * i + k) bs k))
  let w : GWrite := { addr := b.addr, bytes := if b.resumed then [] else bs, wc := cps.map (fun p => (gWc e.raw + 2 * p.1, p.2.1)),
                      maxw := if cps.isEmpty then none else some (fld e.raw 623 576, cps.foldl (fun a p => max a p.2.2) 0) }
  let e1 := { e with put := e.put + 1, resumed := e.resumed + b2n b.resumed, digest := if e.due then hashH e.digest (blkWords bs) else e.digest }
  (e1, m.gput d { g with win := g.win.filter (fun k => k.addr != b.addr), stage := if w.bytes.isEmpty && w.wc.isEmpty then g.stage else g.stage ++ [w] })
/-- One whole block of an entry that applies from its hold or runs phase 2 (R282, R285, R286). -/
def Mod.gBlock (m : Mod) (d : Nat) (e : GEnt) (b : GBlk) : GEnt × Mod :=
  let i := e.put
  if b.resumed then m.gStage d e i b b.bytes (blkHeld b.bytes)
  else if e.held ≠ 0 then m.gStage d e i b (blkSeal b.bytes e.step true) true
  else
    let n := e.params i
    let xs := m.gWords d e.ctx ((if gMatrix e.raw then gOut e.raw else gHold e.raw) + 60 * i) n
    let hs := if gMatrix e.raw then xs.2.gWords d e.ctx (gMom e.raw + 60 * i) n else (some [], xs.2)
    match xs.1, hs.1 with
    | some x, some h =>
      let bs := (List.range n).foldl (fun (bs : List Byte) k =>
        let v := decodeNum 3 (nth 0 x k)
        gSlot bs k (if gMatrix e.raw then
            ruleRun e.rule true (ruleRegs v (decodeNum 3 (nth 0 h k)) (decodeNum 3 (blkSlot bs k 3)) (decodeNum 3 (blkSlot bs k 0)))
          else gProgA e.rule bs k v)) b.bytes
      hs.2.gStage d e i b (blkSeal bs e.step false) false
    | _, _ => (e, hs.2)

/-! Reports and the ends of entries (R287 to R290). -/

/-- The report of Table 11.13. -/
def gReport (e : GEnt) (kind status : Nat) : List Byte :=
  natLE 6 e.step ++ natLE 2 e.entry ++ natLE 1 kind ++ natLE 1 e.held ++ natLE 2 status ++ natLE 4 (min e.nan 0xFFFFFFFF)
    ++ natLE 4 (min e.pinf 0xFFFFFFFF) ++ natLE 4 (min e.ninf 0xFFFFFFFF) ++ natLE 8 (if gCheck e.raw < 2 then 0 else roundNum 4 {} e.sum.num)
    ++ natLE 8 e.resumed ++ natLE 8 (if e.due && kind == 2 then e.digest else 0) ++ List.replicate 16 0
def Mod.gSend (m : Mod) (d : Nat) (e : GEnt) (kind status : Nat) : Mod :=
  if gChan e.raw = 0xFFFF then m else { m with msgs := m.msgs ++ [⟨e.ctx, gChan e.raw, gReport e kind status, groomerId d, 1⟩] }
/-- Every entry of the step but a last one that waits to report has resolved: the boundary (R283, R287, R290, R394). -/
def Mod.gBoundary (m : Mod) (d : Nat) : Mod :=
  let g := m.g d
  match g.closing with
  | none => m
  | some _ =>
    if !g.mats.isEmpty || g.digs.any (fun e => e.phase == 5) then m
    else
      let status := if g.mismatch then 0x0A02 else if g.partialStep then 0x0A01 else 0
      let m1 := g.digs.foldl (fun m e => m.gSend d e 2 status) m
      let m2 := if g.partialStep then m1.raiseEv evGrm (2 ^ d) else m1
      let h := m2.rg 0x800048
      let h1 := if g.clear then setFld h d d 0 else h
      let h2 := if g.mismatch && fld (m2.gRec d) 103 96 == 1 then setFld h1 d d 1 else h1
      (m2.rput 0x800048 h2).gput d { m2.g d with digs := [], closing := none, clear := false, mismatch := false, partialStep := false }
/-- The entry is the schedule's last. -/
def Mod.gLast (m : Mod) (d : Nat) (e : GEnt) : Bool := e.entry + 1 == m.gEntries d
/-- A collective that a Groomer posts on its neighbouring engine: SPACE 1 an all-reduce of one long form, 2 a flag-OR of two words
(R286, R289, R319; its lane is 4, log entry 22). -/
def Mod.gPost (m : Mod) (d : Nat) (e : GEnt) (space group : Nat) (inp : List Byte) : Mod :=
  let tag := e.step % 2 ^ 20 * 4096 + e.entry
  let raw := (if space = 1 then 1 else 6) + 2 ^ 8 * 4 + 2 ^ 16 * group + 2 ^ 32 * tag + (if space = 1 then 2 ^ 64 * 7 + 2 ^ 68 * 7 + 2 ^ 72 * 7 else 0)
    + 2 ^ 106 * (if space = 1 then 1 else 2) + 2 ^ 306 * 0xFFFF
  m.post (d % 2) { raw := raw, space := space, ctx := e.ctx, by_ := d, entry := e.entry, inp := inp }
/-- Every block of an entry has been written: its report leaves, but the last entry's waits for the step's end; a digest that is due is
posted (R287 to R289). -/
def Mod.gEnd (m : Mod) (d : Nat) (e : GEnt) : Mod :=
  let g := m.g d
  let m1 := m.gput d { g with mats := g.mats.filter (fun k => !(k.entry == e.entry && k.step == e.step)), partialStep := g.partialStep || e.held != 0 }
  let m2 := if m1.gLast d e then m1 else m1.gSend d e 2 0
  if e.due then
    (m2.gput d { m2.g d with digs := (m2.g d).digs ++ [{ e with phase := 5 }] }).gPost d e 2 (gDigest e.raw)
      (natLE 8 e.digest ++ natLE 8 (2 ^ 64 - 1 - e.digest))
  else if m2.gLast d e then m2.gput d { m2.g d with digs := (m2.g d).digs ++ [{ e with phase := 6 }] }
  else m2
/-- An entry's last block is staged and its writes have been issued. -/
def Mod.gDone (m : Mod) (d : Nat) (e : GEnt) : Bool :=
  (e.phase == 2 || e.phase == 4) && (e.held == 3 || (decide (gBlocks e.raw ≤ e.put) && (m.g d).stage.all (fun w => !e.own w.addr)))
/-- Entries that apply or run phase 2 take the blocks that stand in the window; entries that are done end; then the boundary. -/
def Mod.gWork : Nat → Mod → Nat → Mod
  | 0, m, _ => m
  | k + 1, m, d =>
    let g := m.g d
    match g.mats.find? (fun e => m.gDone d e) with
    | some e => ((m.gEnd d e).gBoundary d).gWork k d
    | none =>
      match g.mats.findSome? (fun e => if (e.phase == 2 || e.phase == 4) && decide (e.put < gBlocks e.raw) then (g.find (e.addr e.put)).map (fun b => (e, b)) else none) with
      | some (e, b) =>
        if g.admits then
          let r := m.gBlock d e b
          (r.2.gput d { r.2.g d with mats := (r.2.g d).mats.map (fun k => if k.entry == e.entry && k.step == e.step then r.1 else k) }).gWork k d
        else m
      | none => m.gBoundary d
/-- Fuel for gWork: entries and staged blocks of one event. -/
def gFuel : Nat := 256

/-! Gradients (R270, R272, R282, R285, R286). -/

/-- The outcome of a check (R286): 1 non-finite, 2 norm. -/
def gVerdict (x : Nat) (s : Epr) : Nat :=
  let b := decodeNum 3 (fld x 351 320)
  if s.nan || s.pinf || s.ninf then 1
  else if gCheck x = 2 ∧ xlt (xmul b b) s.num then 2 else 0
/-- After the check: a matrix entry reports and waits for its go word, which the Groomer looks at once of itself; an element-wise entry
applies, and its rule record is read at the start of that phase unless the entry is held (R274, R282, R286, R288). -/
def Mod.gAfter (m : Mod) (d : Nat) (e : GEnt) : Mod :=
  let g := m.g d
  let keep := g.mats.filter (fun k => !(k.entry == e.entry && k.step == e.step))
  if gMatrix e.raw then
    let e1 : GEnt := { e with phase := 3 }
    (m.gput d { g with mats := keep ++ [e1], go := if g.go.contains (goOf e.raw) then g.go else g.go ++ [goOf e.raw] }).gSend d e1 1 0
  else if e.held ≠ 0 ∨ gCheck e.raw = 0 then m.gput d { g with mats := keep ++ [{ e with phase := 2 }] }
  else match m.gReadRule d e.ctx e.raw with
    | (some rule, m1) => m1.gput d { m1.g d with mats := keep ++ [{ e with phase := 2, rule := rule }] }
    | (none, m1) => m1.gput d { m1.g d with mats := keep }
/-- All of an entry's gradients are in: G_MAXW and census, the position moves on, the check is decided or reduced first (R268, R270,
R286, R290). -/
def Mod.gReceived (m : Mod) (d : Nat) (e : GEnt) : Mod :=
  let core := groomerId d
  let m1 := m.update 0 (fld e.raw 559 512) e.gmax e.ctx core 4
  let cs := fld e.raw 687 640
  let m2 := if cs = 0 then m1 else ((m1.update 1 cs e.nan e.ctx core 4).update 1 (cs + 4) e.pinf e.ctx core 4).update 1 (cs + 8) e.ninf e.ctx core 4
  let last := e.entry + 1 = m.gEntries d
  let m3 := if last then m2.gSetPos d ((e.step + 1) % 2 ^ 48) 0 else m2.gSetPos d e.step (e.entry + 1)
  let m4 := m3.gput d { m3.g d with cur := none, inq := [], closing := if last then some e.step else (m3.g d).closing }
  let m5 :=
    if m.gHalted d then m4.gAfter d { e with held := 3 }
    else if gCheck e.raw = 0 then m4.gAfter d e
    else if gShard e.raw ≠ 0xFFFF then
      (m4.gput d { m4.g d with mats := (m4.g d).mats ++ [{ e with phase := 1 }] }).gPost d e 1 (gShard e.raw) (natLE 96 (e.sum.toNat 7))
    else m4.gAfter d { e with held := gVerdict e.raw e.sum }
  (m5.latency 0x11 d none (some e.ctx)).gWork gFuel d
/-- One gradient of the entry that receives (R270): rounded, counted, then consumed, held, or applied to its slot. -/
def Mod.gRecord (m : Mod) (d : Nat) : Mod :=
  let g := m.g d
  match g.cur, g.inq with
  | some e, r :: rest =>
    let n := e.got
    let i := n / 15
    let k := n % 15
    let v := (Epr.ofNat g.form r).num
    let raw := convertNum 3 {} (sgn 8 (fld e.raw 287 280)) v
    let x := decodeNum 3 raw
    let c (b : Bool) : Nat := b2n b
    let e1 : GEnt := { e with got := n + 1, gmax := max e.gmax (maxPattern v), nan := e.nan + c x.isNaN, pinf := e.pinf + c (x == .inf false),
                              ninf := e.ninf + c (x == .inf true),
                              sum := if gCheck e.raw = 0 then e.sum else e.sum.add (Epr.ofNum (xmul x x)) }
    let next (m : Mod) (e : GEnt) : Mod :=
      let m1 := m.gput d { m.g d with cur := some e, inq := rest }
      if e.got = gN e.raw then m1.gReceived d e else m1
    let lastOf := k + 1 = e.params i
    if m.gHalted d then next m e1
    else if !gMatrix e.raw && gCheck e.raw != 0 then next (m.gWrite d e.ctx (gHold e.raw + 4 * n) (natLE 4 raw)) e1
    else
      match g.find (e.addr i) with
      | none => m
      | some b =>
        if gMatrix e.raw then
          let z := gProgA e.rule b.bytes k x
          let m1 := (m.gWrite d e.ctx (gMom e.raw + 4 * n) (natLE 4 (roundNum 3 {} (nth .nan z 1)))).gWrite d e.ctx (gHold e.raw + 4 * n)
            (natLE 4 (roundNum 3 {} (nth .nan z 6)))
          let m2 := if lastOf then m1.gput d { m1.g d with win := (m1.g d).win.filter (fun q => q.addr != b.addr) } else m1
          next m2 e1
        else if lastOf && !g.admits then m
        else
          let bs := if b.resumed then b.bytes else gSlot b.bytes k (gProgA e.rule b.bytes k x)
          if lastOf then
            let r := m.gStage d e1 i b (if b.resumed then bs else blkSeal bs e.step false) (b.resumed && blkHeld bs)
            next r.2 r.1
          else next (m.gput d { g with win := g.win.map (fun q => if q.addr = b.addr then { q with bytes := bs } else q) }) e1
  | _, _ => m
/-- Registers of a Groomer that its work uses: its position and the halts (R386, Table 14.11). -/
def posRegs (d : Nat) : List Nat := [0x800000 + 16 * d, 0x800004 + 16 * d, 0x800048]
/-- GROOMER_RECORD: the Groomer takes one gradient, and its queue is filled again (R270, R272). -/
def execGroomerRecord (d : Nat) (s : State) : Host.Outcome State Fault Refusal :=
  .next (s.on fun m => if d < 4 then m.using (posRegs d) (fun m => (m.gRecord d).feedGroomer d) else m)

/-! The state window (R271, R292, R293). -/

/-- What the prefetch does next: a block to read with its step, and the schedule entry that it looked ahead to; or an entry ahead that
fails its check (R295). -/
inductive GNext where
  | block (a step : Nat) (ahead : Option Nat) | bad (entry : Nat)
deriving DecidableEq, Repr
/-- The next block to read: phase 2 first, then entries that apply, then the entry that receives, then the schedule ahead, wrapping into
the next step but never to a block still to be written. -/
def Mod.gNextBlock (m : Mod) (d : Nat) : Option GNext :=
  let g := m.g d
  let p := m.gPos d
  let inWin (x : Nat) : Nat := (g.win.filter (fun b => decide (gState x ≤ b.addr) && decide (b.addr < gState x + 256 * gBlocks x))).length
  let want (x base step : Nat) (ahead : Option Nat) : Option GNext :=
    let i := base + inWin x
    if i < gBlocks x ∧ !(g.stage.any (fun w => w.addr == gState x + 256 * i)) then some (.block (gState x + 256 * i) step ahead) else none
  let act (ph : Nat) : Option GNext := (g.mats.filter (fun e => e.phase == ph && e.held != 3)).findSome? (fun e => want e.raw e.put e.step none)
  let now : Option GNext := g.cur.bind (fun e => want e.raw (if gMatrix e.raw then e.got / 15 else e.put) e.step none)
  let busy (e t : Nat) : Bool := (g.mats ++ g.cur.toList).any (fun k => k.entry == e && (k.step != t || k.phase != 0))
  let n := m.gEntries d
  let from' := match g.cur with | some e => e.entry + 1 | none => p.2
  let ahead := ((List.range n).drop from').map (fun e => (e, p.1)) ++ ((List.range n).take from').map (fun e => (e, (p.1 + 1) % 2 ^ 48))
  let later : Option GNext := (ahead.takeWhile (fun q => !busy q.1 q.2)).findSome? (fun q =>
    let x := m.gEntry d q.1
    if entryErr m.resident d x ≠ 0 then some (.bad q.1) else want x 0 q.2 (some q.1))
  (((act 4).orElse (fun _ => act 2)).orElse (fun _ => now)).orElse (fun _ => later)
/-- A state block arrives: its check code and tag are verified, and it stands in the window (R292, R293). -/
def Mod.gArrive (m : Mod) (d c a t : Nat) : Mod :=
  match m.gGet d c a 256 with
  | (none, m1) => m1
  | (some bs, m1) =>
    if !blkOk bs then m1.gFault d c 0x080C a
    else if blkStep bs ≠ t ∧ (blkStep bs + 1) % 2 ^ 48 ≠ t then m1.gFault d c 0x080D a
    else ((m1.gput d { m1.g d with win := (m1.g d).win ++ [⟨a, bs, blkStep bs == t⟩] }).gWork gFuel d)
/-- GROOMER_BLOCK_ARRIVE: the next block is read while fewer than 32,768 stand in the window or wait for their write; an entry ahead is read
and checked first (R271, R295). -/
def execGroomerBlockArrive (d : Nat) (s : State) : Host.Outcome State Fault Refusal :=
  .next (s.on fun m => m.using (posRegs d) fun m =>
    let g := m.g d
    match g.ctx, m.gNextBlock d with
    | some c, some k =>
      if 4 ≤ d ∨ 32768 ≤ g.win.length + g.stage.length ∨ g.stopped ∨ m.gHalted d ∨ (m.run? c).isNone then m
      else match k with
        | .bad e => (m.gReadEntry d c e).2
        | .block a t none => m.gArrive d c a t
        | .block a t (some e) =>
          match m.gReadEntry d c e with
          | (some _, m1) => m1.gArrive d c a t
          | (none, m1) => m1
    | _, _ => m)
/-- The writes of a staged block: its state, then its working copies and their maximum word (R280). -/
def Mod.gIssue (m : Mod) (d c : Nat) (w : GWrite) : Mod :=
  let m1 := m.gWrite d c w.addr w.bytes
  let m2 := w.wc.foldl (fun m p => m.gWrite d c p.1 (natLE 2 p.2)) m1
  match w.maxw with
  | some p => m2.update 0 p.1 p.2 c (groomerId d) 4
  | none => m2
/-- WC_WRITE_ISSUE: the oldest staged block's state write is accepted, which its I/O die must be awake for, and its working-copy writes
follow (R21, R280). -/
def execWcWriteIssue (d : Nat) (s : State) : Host.Outcome State Fault Refusal :=
  .next (s.on fun m =>
    let g := m.g d
    match g.stage with
    | [] => m
    | w :: rest =>
      if !w.bytes.isEmpty && !m.awake d w.addr 256 then m.park (groomerId d) w.addr 256
      else
        let m2 := (m.unpark (groomerId d) w.addr).gIssue d (g.ctx.getD noCtx) w
        (m2.gput d { m2.g d with stage := rest }).gWork gFuel d)
/-- GROOMER_GO_WORD: the Groomer looks at a go word that a write has notified or whose entry has just come to wait, and phase 2 of the entry
starts when it holds the low half of T (R282). A held entry skips program B, so its rule record is not read (R286). -/
def execGroomerGoWord (d entry : Nat) (s : State) : Host.Outcome State Fault Refusal :=
  .next (s.on fun m =>
    let g := m.g d
    match g.mats.find? (fun e => e.entry == entry && e.phase == 3) with
    | none => m
    | some e =>
      if !g.go.contains (goOf e.raw) then m
      else match m.gGet d e.ctx (goOf e.raw) 4 with
        | (none, m1) => m1
        | (some bs, m1) =>
          -- the notice stands for another entry that waits for the same word
          let others := (m1.g d).mats.any (fun k => k.phase == 3 && goOf k.raw == goOf e.raw && !(k.entry == e.entry && k.step == e.step))
          let m2 := if others then m1 else m1.gput d { m1.g d with go := (m1.g d).go.filter (fun a => a != goOf e.raw) }
          if leNat bs ≠ e.step % 2 ^ 32 then m2
          else
            let set (m : Mod) (rule : Nat) : Mod := m.gput d { m.g d with
              mats := (m.g d).mats.map (fun k => if k.entry == entry && k.phase == 3 then { k with phase := 4, rule := rule } else k) }
            if e.held ≠ 0 then (set m2 0).gWork gFuel d
            else match m2.gReadRule d e.ctx e.raw with
              | (some rule, m3) => (set m3 rule).gWork gFuel d
              | (none, m3) => m3)
/-- The result of a collective that a Groomer posted, which leaves the engine. -/
def Mod.gCollect (m : Mod) (d entry space : Nat) : Option (List Byte × Mod) :=
  let x := d % 2
  match (m.colls x).findIdx? (fun c => c.space == space && c.by_ == d && c.entry == entry && c.fin) with
  | none => none
  | some i => ((m.colls x)[i]?).map (fun c => (c.out, m.setColls x (ldel (m.colls x) i)))
/-- SHARD_REDUCE_DONE: the totals of every shard decide the check (R286). -/
def execShardReduceDone (d entry : Nat) (s : State) : Host.Outcome State Fault Refusal :=
  .next (s.on fun m =>
    match m.gCollect d entry 1, (m.g d).mats.find? (fun e => e.entry == entry && e.phase == 1) with
    | some (out, m1), some e =>
      let t := Epr.ofNat 7 (leNat out)
      (m1.gAfter d { e with sum := t, held := gVerdict e.raw t }).gWork gFuel d
    | _, _ => m)
/-- DIGEST_FLAG_OR_DONE: replicas disagree exactly when the OR of D and of its complement share a bit (R289, R290). An abandoned digest
resolves without a verdict. -/
def execDigestFlagOrDone (d entry : Nat) (s : State) : Host.Outcome State Fault Refusal :=
  .next (s.on fun m =>
    match (m.g d).digs.find? (fun e => e.entry == entry && e.phase == 5) with
    | none => m
    | some e =>
      let drop (m : Mod) : Mod := m.gput d { m.g d with digs := (m.g d).digs.filter (fun k => !(k.entry == entry && k.phase == 5)) }
      let settle (m : Mod) : Mod :=
        let m1 := drop m
        (if m1.gLast d e then m1.gput d { m1.g d with digs := (m1.g d).digs ++ [{ e with phase := 6 }] } else m1).gBoundary d
      match m.gCollect d entry 2 with
      | some (out, m1) =>
        let bad := leNat (out.take 8) &&& leNat (out.drop 8) != 0
        settle (if bad then (m1.raiseEv evGrm (2 ^ (4 + d))).gput d { m1.g d with mismatch := true } else m1)
      | none =>
        if (m.colls (d % 2)).any (fun c => c.space == 2 && c.by_ == d && c.entry == entry) then m else settle m)

/-- A command whose die set holds the Groomer's die starts (R271); one that starts during a reset's hold-off finds the write stage closed
(R291). -/
def Mod.gBegin (m : Mod) (d c : Nat) : Mod := m.gput d { m.g d with ctx := some c, stopped := m.pw.warm.isSome }
/-- Staged blocks of a completed command are written in order, each with its working copies once its I/O die accepts its state; the rest waits
for a die that is raised for it (R21, R271, R280). -/
def Mod.gFlush : Nat → Mod → Nat → Mod
  | 0, m, _ => m
  | k + 1, m, d =>
    match (m.g d).stage with
    | [] => m
    | w :: rest =>
      if !w.bytes.isEmpty && !m.awake d w.addr 256 then m.park (groomerId d) w.addr 256
      else
        let m1 := (m.unpark (groomerId d) w.addr).gIssue d ((m.g d).ctx.getD noCtx) w
        (m1.gput d { m1.g d with stage := rest }).gFlush k d
/-- The command ends: the window is emptied and what was in hand is given up (R271). Blocks of a held entry that were written make the step
partial although their entry is given up (R287). A step whose outstanding entries are gone has its boundary. -/
def Mod.gFinish (m : Mod) (d : Nat) : Mod :=
  let g := m.g d
  let held := g.mats.any (fun e => e.held != 0 && e.put != 0)
  (m.gput d { g with win := [], stage := [], inq := [], cur := none, mats := [], digs := [], go := [], ctx := none,
                     partialStep := g.partialStep || held }).gBoundary d

end Sys2Proof.Machine
end

