-- ==== Sys2Proof/Machine/Crypto.lean ====
section
/-! DEFINITION. The cryptographic functions that the loader and the measurements use, by the standards that the spec names for them:
SHA-384 (FIPS 180), HMAC and HKDF over it, AES-256-GCM, ECDSA P-384 verification (FIPS 186) (R333 to R337, R364, R365; log entry 2). -/

namespace Sys2Proof.Machine

/-- A byte string as a number and back, most significant byte first. -/
def beNat (bs : List Byte) : Nat := bs.foldl (fun x b => 256 * x + b.toNat) 0
def natBE (n x : Nat) : List Byte := (natLE n x).reverse
/-- A list cut into pieces of n, the last one as it is; the first argument bounds the number of pieces. -/
def pieces (n : Nat) : Nat → List Byte → List (List Byte)
  | 0, _ => []
  | f + 1, l => if l.isEmpty then [] else l.take n :: pieces n f (l.drop n)

/-! SHA-384. -/

/-- The 80 round constants. -/
def shaK : List Nat :=
  [
   0x428a2f98d728ae22, 0x7137449123ef65cd, 0xb5c0fbcfec4d3b2f, 0xe9b5dba58189dbbc, 0x3956c25bf348b538, 0x59f111f1b605d019,
   0x923f82a4af194f9b, 0xab1c5ed5da6d8118, 0xd807aa98a3030242, 0x12835b0145706fbe, 0x243185be4ee4b28c, 0x550c7dc3d5ffb4e2,
   0x72be5d74f27b896f, 0x80deb1fe3b1696b1, 0x9bdc06a725c71235, 0xc19bf174cf692694, 0xe49b69c19ef14ad2, 0xefbe4786384f25e3,
   0x0fc19dc68b8cd5b5, 0x240ca1cc77ac9c65] ++
  [
   0x2de92c6f592b0275, 0x4a7484aa6ea6e483, 0x5cb0a9dcbd41fbd4, 0x76f988da831153b5, 0x983e5152ee66dfab, 0xa831c66d2db43210,
   0xb00327c898fb213f, 0xbf597fc7beef0ee4, 0xc6e00bf33da88fc2, 0xd5a79147930aa725, 0x06ca6351e003826f, 0x142929670a0e6e70,
   0x27b70a8546d22ffc, 0x2e1b21385c26c926, 0x4d2c6dfc5ac42aed, 0x53380d139d95b3df, 0x650a73548baf63de, 0x766a0abb3c77b2a8,
   0x81c2c92e47edaee6, 0x92722c851482353b] ++
  [
   0xa2bfe8a14cf10364, 0xa81a664bbc423001, 0xc24b8b70d0f89791, 0xc76c51a30654be30, 0xd192e819d6ef5218, 0xd69906245565a910,
   0xf40e35855771202a, 0x106aa07032bbd1b8, 0x19a4c116b8d2d0c8, 0x1e376c085141ab53, 0x2748774cdf8eeb99, 0x34b0bcb5e19b48a8,
   0x391c0cb3c5c95a63, 0x4ed8aa4ae3418acb, 0x5b9cca4f7763e373, 0x682e6ff3d6b2b8a3, 0x748f82ee5defb2fc, 0x78a5636f43172f60,
   0x84c87814a1f0ab72, 0x8cc702081a6439ec] ++
  [
   0x90befffa23631e28, 0xa4506cebde82bde9, 0xbef9a3f7b2c67915, 0xc67178f2e372532b, 0xca273eceea26619c, 0xd186b8c721c0c207,
   0xeada7dd6cde0eb1e, 0xf57d4f7fee6ed178, 0x06f067aa72176fba, 0x0a637dc5a2c898a6, 0x113f9804bef90dae, 0x1b710b35131c471b,
   0x28db77f523047d84, 0x32caab7b40c72493, 0x3c9ebe0a15c9bebc, 0x431d67c49c100d4c, 0x4cc5d4becb3e42b6, 0x597f299cfc657e2a,
   0x5fcb6fab3ad6faec, 0x6c44198c4a475817]
/-- The initial value: a to h. -/
def shaInit : List Nat := [
   0xcbbb9d5dc1059ed8, 0x629a292a367cd507, 0x9159015a3070dd17, 0x152fecd8f70e5939,
   0x67332667ffc00b31, 0x8eb44a8768581511, 0xdb0c2e0d64f98fa7, 0x47b5481dbefa4fa4]
def add64 (x y : Nat) : Nat := (x + y) % 2 ^ 64
def rotr64 (n x : Nat) : Nat := x >>> n ||| (x <<< (64 - n)) % 2 ^ 64
/-- The three-term functions over 64-bit words: two rotations with a third, or with a shift. -/
def shaBig (p q r x : Nat) : Nat := rotr64 p x ^^^ rotr64 q x ^^^ rotr64 r x
def shaSmall (p q r x : Nat) : Nat := rotr64 p x ^^^ rotr64 q x ^^^ (x >>> r)
/-- One round: the working variables and the next sixteen words of the message schedule. -/
def shaRound (st : List Nat × List Nat) (k : Nat) : List Nat × List Nat :=
  match st with
  | ([a, b, c, d, e, f, g, h], w) =>
    let w0 := nth 0 w 0
    let t1 := (h + shaBig 14 18 41 e + ((e &&& f) ^^^ ((2 ^ 64 - 1 - e) &&& g)) + k + w0) % 2 ^ 64
    let t2 := (shaBig 28 34 39 a + ((a &&& b) ^^^ (a &&& c) ^^^ (b &&& c))) % 2 ^ 64
    let nw := (shaSmall 19 61 6 (nth 0 w 14) + nth 0 w 9 + shaSmall 1 8 7 (nth 0 w 1) + w0) % 2 ^ 64
    ([add64 t1 t2, a, b, c, add64 d t1, e, f, g], w.drop 1 ++ [nw])
  | st => st
/-- One block of 128 bytes. -/
def shaBlock (hs : List Nat) (blk : List Byte) : List Nat :=
  let w := (List.range 16).map (fun i => beNat ((blk.drop (8 * i)).take 8))
  List.zipWith add64 hs (shaK.foldl shaRound (hs, w)).1
/-- The message with its padding: a one bit, zeros, and its length in bits in 16 bytes. -/
def shaPad (bs : List Byte) : List Byte :=
  bs ++ [0x80] ++ List.replicate ((239 - bs.length % 128) % 128) 0 ++ natBE 16 (8 * bs.length)
/-- SHA-384 (R333, R334, R364). -/
@[irreducible] def sha384 (bs : List Byte) : List Byte :=
  let p := shaPad bs
  (((pieces 128 (p.length / 128) p).foldl shaBlock shaInit).flatMap (natBE 8)).take 48
/-- HMAC-SHA-384. -/
def hmac384 (key msg : List Byte) : List Byte :=
  let k0 := if 128 < key.length then sha384 key else key
  let k := k0 ++ List.replicate (128 - k0.length) 0
  sha384 (k.map (fun b => b ^^^ 0x5C) ++ sha384 (k.map (fun b => b ^^^ 0x36) ++ msg))
/-- HKDF-SHA-384 with the salt of 48 zero bytes and a length of 32 bytes, which one block of its expansion gives (R337). -/
@[irreducible] def hkdf384 (ikm info : List Byte) : List Byte := (hmac384 (hmac384 (List.replicate 48 0) ikm) (info ++ [0x01])).take 32

/-! AES-256-GCM. -/

/-- The substitution box of AES: byte x of this number is that of x. -/
def aesSbox : Nat :=
  0x16bb54b00f2d99416842e6bf0d89a18cdf2855cee9871e9b948ed9691198f8e19e1dc186b95735610ef6034866b53e708a8bbd4b1f74dde8c6b4a61c2e2578ba08ae7a65eaf4566ca94ed58d6d37c8e779e4959162acd3c25c2406490a3a32e0db0b5ede14b8ee4688902a22dc4f816073195d643d7ea7c41744975fec130ccdd2f3ff1021dab6bcf5389d928f40a351a89f3c507f02f94585334d43fbaaefd0cf584c4a39becb6a5bb1fc20ed00d153842fe329b3d63b52a05a6e1b1a2c830975b227ebe28012079a059618c323c7041531d871f1e5a534ccf73f362693fdb7c072a49cafa2d4adf04759fa7dc982ca76abd7fe2b670130c56f6bf27b777c63
def subByte (x : Nat) : Nat := (aesSbox >>> (8 * x)) % 256
/-- Times x in the field of AES. -/
def xtime (x : Nat) : Nat := if x < 128 then 2 * x else (2 * x ^^^ 0x11B) % 256
/-- Key expansion: from the last eight words, each of four bytes, the next eight. -/
def aesNextKeys (ws : List (List Nat)) (rcon : Nat) : List (List Nat) :=
  let xor (a b : List Nat) : List Nat := List.zipWith (fun x y => x ^^^ y) a b
  let sub (a : List Nat) : List Nat := a.map subByte
  let w7 := nth [] ws 7
  let n0 := xor (nth [] ws 0) (xor (sub (w7.drop 1 ++ w7.take 1)) [rcon, 0, 0, 0])
  let n1 := xor (nth [] ws 1) n0
  let n2 := xor (nth [] ws 2) n1
  let n3 := xor (nth [] ws 3) n2
  let n4 := xor (nth [] ws 4) (sub n3)
  let n5 := xor (nth [] ws 5) n4
  let n6 := xor (nth [] ws 6) n5
  [n0, n1, n2, n3, n4, n5, n6, xor (nth [] ws 7) n6]
/-- The 15 round keys of a 32-byte key, 16 bytes each. -/
def aesKeys (key : List Byte) : List (List Nat) :=
  let w0 := (List.range 8).map (fun i => ((key.drop (4 * i)).take 4).map (·.toNat))
  let all := ([1, 2, 4, 8, 16, 32, 64].foldl (fun (p : List (List Nat) × List (List Nat)) r =>
    let n := aesNextKeys p.1 r
    (n, p.2 ++ n)) (w0, w0)).2
  (List.range 15).map (fun i => ((all.drop (4 * i)).take 4).flatten)
/-- Rows shifted: place 4 c + r takes from column c + r. -/
def aesShift (s : List Nat) : List Nat := (List.range 16).map (fun i => nth 0 s ((i + 4 * (i % 4)) % 16))
/-- Columns mixed. -/
def aesMix (s : List Nat) : List Nat :=
  (List.range 16).map (fun i =>
    let c := 4 * (i / 4)
    let at' (k : Nat) : Nat := nth 0 s (c + (i + k) % 4)
    xtime (at' 0) ^^^ xtime (at' 1) ^^^ at' 1 ^^^ at' 2 ^^^ at' 3)
/-- AES-256 of one block under its round keys. -/
def aesBlock (ks : List (List Nat)) (blk : List Nat) : List Nat :=
  let xor (a b : List Nat) : List Nat := List.zipWith (fun x y => x ^^^ y) a b
  let s := ((ks.drop 1).take 13).foldl (fun s k => xor (aesMix (aesShift (s.map subByte))) k) (xor blk (nth [] ks 0))
  xor (aesShift (s.map subByte)) (nth [] ks 14)
/-- Multiplication in the field of GHASH, bit 127 being that of x^0; the first argument counts the bits of x left. -/
def ghashMul (x : Nat) : Nat → Nat → Nat → Nat
  | 0, z, _ => z
  | i + 1, z, v => ghashMul x i (if x.testBit i then z ^^^ v else z) (if v % 2 = 1 then v / 2 ^^^ 0xE1 * 2 ^ 120 else v / 2)
/-- A byte string padded with zeros to whole blocks of 16. -/
def pad16 (bs : List Byte) : List Byte := bs ++ List.replicate ((16 - bs.length % 16) % 16) 0
/-- Authenticated opening: key, 96-bit IV, additional data, ciphertext, tag; the plaintext, or none when the tag does not verify (R335). -/
@[irreducible] def gcmOpen (key iv aad ct tag : List Byte) : Option (List Byte) :=
  let ks := aesKeys key
  let enc (b : Nat) : Nat := beNat ((aesBlock ks ((natBE 16 b).map (·.toNat))).map (BitVec.ofNat 8))
  let h := enc 0
  let d := pad16 aad ++ pad16 ct ++ natBE 8 (8 * aad.length) ++ natBE 8 (8 * ct.length)
  let s := (pieces 16 (d.length / 16) d).foldl (fun y b => ghashMul (y ^^^ beNat b) 128 0 h) 0
  let j0 := beNat iv * 2 ^ 32 + 1
  if beNat tag = s ^^^ enc j0 ∧ tag.length = 16 then
    some ((pieces 16 (ct.length / 16 + 1) ct).zipIdx.flatMap (fun p =>
      List.zipWith (fun x y => x ^^^ y) p.1 (natBE 16 (enc (beNat iv * 2 ^ 32 + (p.2 + 2) % 2 ^ 32)))))
  else none

/-! ECDSA on the curve P-384. -/

/-- The field prime, the coefficient b, the order and the base point; the coefficient a is -3. -/
def p384 : Nat := 2 ^ 384 - 2 ^ 128 - 2 ^ 96 + 2 ^ 32 - 1
def p384b : Nat := 0xb3312fa7e23ee7e4988e056be3f82d19181d9c6efe8141120314088f5013875ac656398d8a2ed19d2a85c8edd3ec2aef
def p384n : Nat := 0xffffffffffffffffffffffffffffffffffffffffffffffffc7634d81f4372ddf581a0db248b0a77aecec196accc52973
def p384g : Nat × Nat :=
  (0xaa87ca22be8b05378eb1c71ef320ad746e1d3b628ba79b9859f741e082542a385502f25dbf55296c3a545e3872760ab7,
   0x3617de4a96262c6f5d9e98bf9292dc29f8f41dbd289a147ce9da3113b5f0b8c00a60b1ce1d7e819d7a431d7c90ea0e5f)
/-- x to the power e modulo m, by squaring; the first argument counts the bits of e left. -/
def powMod (m e : Nat) : Nat → Nat → Nat → Nat
  | 0, acc, _ => acc
  | f + 1, acc, x => powMod m (e / 2) f (if e % 2 = 1 then acc * x % m else acc) (x * x % m)
/-- The inverse of x modulo a 384-bit prime. -/
def invMod (m x : Nat) : Nat := powMod m (m - 2) 384 1 (x % m)
/-- The sum of two points; none is the point at infinity. -/
def ecAdd (a b : Option (Nat × Nat)) : Option (Nat × Nat) :=
  match a, b with
  | none, q => q
  | p, none => p
  | some (x1, y1), some (x2, y2) =>
    if x1 = x2 ∧ (y1 + y2) % p384 = 0 then none
    else
      let l := if x1 = x2 then (3 * x1 * x1 + (p384 - 3)) * invMod p384 (2 * y1) % p384
               else (y2 + (p384 - y1)) * invMod p384 (x2 + (p384 - x1)) % p384
      let x := (l * l + (p384 - x1) + (p384 - x2)) % p384
      some (x, (l * (x1 + (p384 - x)) + (p384 - y1)) % p384)
/-- k times a point, by doubling; the first number counts the bits of k left. -/
def ecMul (k : Nat) : Nat → Option (Nat × Nat) → Option (Nat × Nat) → Option (Nat × Nat)
  | 0, acc, _ => acc
  | f + 1, acc, q => ecMul (k / 2) f (if k % 2 = 1 then ecAdd acc q else acc) (ecAdd q q)
/-- ECDSA P-384 verification of a digest: public key x and y, signature r and s (R333). -/
@[irreducible] def ecdsaVerify (pubX pubY sigR sigS digest : List Byte) : Bool :=
  let x := beNat pubX
  let y := beNat pubY
  let r := beNat sigR
  let s := beNat sigS
  let onCurve : Bool := decide (x < p384) && decide (y < p384) && y * y % p384 == (x * x * x + (p384 - 3) * x + p384b) % p384
  let inRange (v : Nat) : Bool := decide (0 < v) && decide (v < p384n)
  onCurve && inRange r && inRange s &&
    (let w := invMod p384n s
     match ecAdd (ecMul (beNat digest * w % p384n) 384 none (some p384g)) (ecMul (r * w % p384n) 384 none (some (x, y))) with
     | some (px, _) => px % p384n == r
     | none => false)

end Sys2Proof.Machine
end

