-- ==== Sys2Proof/Machine/Scalar.lean ====
section
/-! DEFINITION. S-core instructions but for channels and the ICP (R118 to R134, R212). -/

namespace Sys2Proof.Machine

/-! Command records. -/

/-- Fields of a command record (Table 10.8). -/
def crScores (x : Nat) : Nat := fld x 63 0
def crDies (x : Nat) : Nat := fld x 67 64
def crIrq (x : Nat) : Bool := bitAt x 68
def crCal (x : Nat) : Bool := bitAt x 69
def crCalUse (x : Nat) : Bool := bitAt x 70
def crSlot (x : Nat) : Nat := fld x 73 71
def crEntry (x : Nat) : Nat := fld x 97 80
def crReach (x : Nat) : Nat := fld x 175 128
def crArgs (x : Nat) : List Nat := (List.range 4).map (fun i => fld x (223 + 32 * i) (192 + 32 * i))
/-- Dies of the die set, and the S-cores named. -/
def crDieList (x : Nat) : List Nat := bitsOf 4 (crDies x)
def crScList (x : Nat) : List Nat := bitsOf 64 (crScores x)

/-- An ALU function: rd = f ra rb (Table 5.11). -/
def Mod.alu (m : Mod) (n fn : Nat) (f : Word → Word → Word) : Mod :=
  m.scRun n 0 (some fn) (fun w c => m.wrRd n (wRd w) (f (c.getG (wRa w)) (c.getG (wRb w))))
/-- An immediate operation: rd = f ra imm16 (Table 5.10). -/
def Mod.imm (m : Mod) (n op : Nat) (f : Word → Nat → Word) : Mod :=
  m.scRun n op none (fun w c => m.wrRd n (wRd w) (f (c.getG (wRa w)) (wImm w)))
/-- A branch: to the word offset from the next instruction when f ra rb holds (R123). -/
def Mod.branch (m : Mod) (n op : Nat) (f : Word → Word → Bool) : Mod :=
  m.scRun n op none (fun w c =>
    if f (c.getG (wRd w)) (c.getG (wRa w)) then
      m.goTo n c (BitVec.ofNat 32 (c.pc + 4) + (wSimm w <<< 2)).toNat
    else m.goNext n c)

/-- A truth value as a word. -/
def bw (b : Bool) : Word := if b then 1 else 0
/-- Quotient rounded toward zero; division by zero gives all ones (R124). -/
def divS (a b : Word) : Word := if b = 0 then 0xFFFFFFFF else a.sdiv b
def divU (a b : Word) : Word := if b = 0 then 0xFFFFFFFF else a.udiv b
/-- Remainder with the sign of ra; division by zero gives ra (R124). -/
def remS (a b : Word) : Word := if b = 0 then a else a.srem b
def remU (a b : Word) : Word := if b = 0 then a else a.umod b
/-- High halves of products (R124). -/
def mulhS (a b : Word) : Word := BitVec.ofInt 32 (a.toInt * b.toInt / 4294967296)
def mulhU (a b : Word) : Word := BitVec.ofNat 32 (a.toNat * b.toNat / 4294967296)
/-- Sign extension of imm16 (R123). -/
def sx (i : Nat) : Word := (BitVec.ofNat 16 i).signExtend 32

/-- ADD (R124). -/
def execScAdd (n : Nat) (s : State) : Host.Outcome State Fault Refusal := .next (s.on fun m => m.alu n 0 (fun a b => a + b))
/-- SUB (R124). -/
def execScSub (n : Nat) (s : State) : Host.Outcome State Fault Refusal := .next (s.on fun m => m.alu n 1 (fun a b => a - b))
/-- AND (R124). -/
def execScAnd (n : Nat) (s : State) : Host.Outcome State Fault Refusal := .next (s.on fun m => m.alu n 2 (fun a b => a &&& b))
/-- OR (R124). -/
def execScOr (n : Nat) (s : State) : Host.Outcome State Fault Refusal := .next (s.on fun m => m.alu n 3 (fun a b => a ||| b))
/-- XOR (R124). -/
def execScXor (n : Nat) (s : State) : Host.Outcome State Fault Refusal := .next (s.on fun m => m.alu n 4 (fun a b => a ^^^ b))
/-- SLL: shift by rb[4:0] (R124). -/
def execScSll (n : Nat) (s : State) : Host.Outcome State Fault Refusal := .next (s.on fun m => m.alu n 5 (fun a b => a <<< (b.toNat % 32)))
/-- SRL (R124). -/
def execScSrl (n : Nat) (s : State) : Host.Outcome State Fault Refusal := .next (s.on fun m => m.alu n 6 (fun a b => a >>> (b.toNat % 32)))
/-- SRA (R124). -/
def execScSra (n : Nat) (s : State) : Host.Outcome State Fault Refusal :=
  .next (s.on fun m => m.alu n 7 (fun a b => a.sshiftRight (b.toNat % 32)))
/-- SLT (R124). -/
def execScSlt (n : Nat) (s : State) : Host.Outcome State Fault Refusal := .next (s.on fun m => m.alu n 8 (fun a b => bw (a.slt b)))
/-- SLTU (R124). -/
def execScSltu (n : Nat) (s : State) : Host.Outcome State Fault Refusal := .next (s.on fun m => m.alu n 9 (fun a b => bw (a.ult b)))
/-- MUL (R124). -/
def execScMul (n : Nat) (s : State) : Host.Outcome State Fault Refusal := .next (s.on fun m => m.alu n 0xA (fun a b => a * b))
/-- MULH (R124). -/
def execScMulh (n : Nat) (s : State) : Host.Outcome State Fault Refusal := .next (s.on fun m => m.alu n 0xB mulhS)
/-- MULHU (R124). -/
def execScMulhu (n : Nat) (s : State) : Host.Outcome State Fault Refusal := .next (s.on fun m => m.alu n 0xC mulhU)
/-- DIV (R124). -/
def execScDiv (n : Nat) (s : State) : Host.Outcome State Fault Refusal := .next (s.on fun m => m.alu n 0xD divS)
/-- DIVU (R124). -/
def execScDivu (n : Nat) (s : State) : Host.Outcome State Fault Refusal := .next (s.on fun m => m.alu n 0xE divU)
/-- REM (R124). -/
def execScRem (n : Nat) (s : State) : Host.Outcome State Fault Refusal := .next (s.on fun m => m.alu n 0xF remS)
/-- REMU (R124). -/
def execScRemu (n : Nat) (s : State) : Host.Outcome State Fault Refusal := .next (s.on fun m => m.alu n 0x10 remU)

/-- ADDI (R124). -/
def execScAddi (n : Nat) (s : State) : Host.Outcome State Fault Refusal := .next (s.on fun m => m.imm n 1 (fun a i => a + sx i))
/-- ANDI, zero-extended (R124). -/
def execScAndi (n : Nat) (s : State) : Host.Outcome State Fault Refusal :=
  .next (s.on fun m => m.imm n 2 (fun a i => a &&& BitVec.ofNat 32 i))
/-- ORI, zero-extended (R124). -/
def execScOri (n : Nat) (s : State) : Host.Outcome State Fault Refusal :=
  .next (s.on fun m => m.imm n 3 (fun a i => a ||| BitVec.ofNat 32 i))
/-- XORI, zero-extended (R124). -/
def execScXori (n : Nat) (s : State) : Host.Outcome State Fault Refusal :=
  .next (s.on fun m => m.imm n 4 (fun a i => a ^^^ BitVec.ofNat 32 i))
/-- SLTI (R124). -/
def execScSlti (n : Nat) (s : State) : Host.Outcome State Fault Refusal := .next (s.on fun m => m.imm n 5 (fun a i => bw (a.slt (sx i))))
/-- SLLI: shift by imm[4:0] (R124). -/
def execScSlli (n : Nat) (s : State) : Host.Outcome State Fault Refusal := .next (s.on fun m => m.imm n 6 (fun a i => a <<< (i % 32)))
/-- SRLI (R124). -/
def execScSrli (n : Nat) (s : State) : Host.Outcome State Fault Refusal := .next (s.on fun m => m.imm n 7 (fun a i => a >>> (i % 32)))
/-- SRAI (R124). -/
def execScSrai (n : Nat) (s : State) : Host.Outcome State Fault Refusal :=
  .next (s.on fun m => m.imm n 8 (fun a i => a.sshiftRight (i % 32)))
/-- LUI (R124). -/
def execScLui (n : Nat) (s : State) : Host.Outcome State Fault Refusal :=
  .next (s.on fun m => m.imm n 9 (fun _ i => BitVec.ofNat 32 (i * 65536)))

/-! Loads and stores (R119, R120). -/

/-- Where an S-core address leads (Table 5.7). -/
inductive ScAddr where
  | prog (o : Nat) | data (o : Nat) | dev (a : Nat) | none
deriving DecidableEq, Repr
/-- Decode an S-core address. -/
def SCore.addr (c : SCore) (a : Nat) : ScAddr :=
  if a < 0x30000 then .prog a
  else if a < 0x40000 then .data (a - 0x30000)
  else if 0x40000000 ≤ a ∧ a < 0x80000000 then .dev (c.ap0 + (a - 0x40000000))
  else if 0x80000000 ≤ a ∧ a < 0xC0000000 then .dev (c.ap1 + (a - 0x80000000))
  else .none
/-- A loaded value extended to 32 bits. -/
def extend (size v : Nat) (signed : Bool) : Word :=
  if signed then BitVec.ofInt 32 (sgn (8 * size) v) else BitVec.ofNat 32 v
/-- A load of 1, 2 or 4 bytes (R119): SRAM gives the value, an aperture load waits for its return (R120). A load whose way sleeps is
tried again (R21). An access is outside the map when its first byte is: one that starts inside and ends outside is misaligned and gives
ALIGN_FAULT (log entry 76). -/
def Mod.load (m : Mod) (n op size : Nat) (signed : Bool) : Mod :=
  m.scRun n op none (fun w c =>
    let a := (c.getG (wRa w) + wSimm w).toNat
    match c.addr a with
    | .none => m.progFault n fAddr c.pc
    | tgt =>
      if a % size ≠ 0 then m.progFault n fAlign c.pc
      else match tgt with
        | .prog o => m.wrRd n (wRd w) (extend size (leNat (mread 0 (m.t (scTile n)).prog o size)) signed)
        | .data o => m.wrRd n (wRd w) (extend size (leNat (mread 0 c.data o size)) signed)
        | .dev d =>
          if mapped d size && !m.awake (n / 16) d size then m.park (scTile n) d size
          else match m.fetch (scTile n) c.ctx d size with
          | (some bs, m1) =>
            m1.goNext n (if wRd w = 0 then m1.s n else { m1.s n with loads := (m1.s n).loads ++ [⟨wRd w, extend size (leNat bs) signed⟩] })
          | (none, m1) => if (m1.s n).running then m1.goNext n (m1.s n) else m1
        | .none => m)
/-- A store of 1, 2 or 4 bytes (R119): posted (R120). -/
def Mod.store (m : Mod) (n op size : Nat) : Mod :=
  m.scRun n op none (fun w c =>
    let a := (c.getG (wRa w) + wSimm w).toNat
    let bs := natLE size (c.getG (wRd w)).toNat
    match c.addr a with
    | .none => m.progFault n fAddr c.pc
    | tgt =>
      if a % size ≠ 0 then m.progFault n fAlign c.pc
      else match tgt with
        | .prog _ => m.progFault n fArea c.pc
        | .data o => m.goNext n { c with data := mwrite 0 c.data o bs }
        | .dev d => let m1 := m.issue (scTile n) 4 0 c.ctx d bs; if (m1.s n).running then m1.goNext n (m1.s n) else m1
        | .none => m)
/-- LDB (R119). -/
def execScLdb (n : Nat) (s : State) : Host.Outcome State Fault Refusal := .next (s.on fun m => m.load n 0xA 1 true)
/-- LDBU (R119). -/
def execScLdbu (n : Nat) (s : State) : Host.Outcome State Fault Refusal := .next (s.on fun m => m.load n 0xB 1 false)
/-- LDH (R119). -/
def execScLdh (n : Nat) (s : State) : Host.Outcome State Fault Refusal := .next (s.on fun m => m.load n 0xC 2 true)
/-- LDHU (R119). -/
def execScLdhu (n : Nat) (s : State) : Host.Outcome State Fault Refusal := .next (s.on fun m => m.load n 0xD 2 false)
/-- LDW (R119). -/
def execScLdw (n : Nat) (s : State) : Host.Outcome State Fault Refusal := .next (s.on fun m => m.load n 0xE 4 false)
/-- STB (R119). -/
def execScStb (n : Nat) (s : State) : Host.Outcome State Fault Refusal := .next (s.on fun m => m.store n 0x10 1)
/-- STH (R119). -/
def execScSth (n : Nat) (s : State) : Host.Outcome State Fault Refusal := .next (s.on fun m => m.store n 0x11 2)
/-- STW (R119). -/
def execScStw (n : Nat) (s : State) : Host.Outcome State Fault Refusal := .next (s.on fun m => m.store n 0x12 4)
/-- APERTURE_LOAD_RETURN: the load's value reaches its register (R120). -/
def execApertureLoadReturn (n rd : Nat) (s : State) : Host.Outcome State Fault Refusal :=
  .next (s.on fun m =>
    let c := m.s n
    match c.loads.find? (fun l => l.rd == rd) with
    | some l => m.sput n ({ c with loads := c.loads.filter (fun l => l.rd != rd) }.setG rd l.val)
    | none => m)

/-! Branches and jumps. -/

/-- BEQ (R124). -/
def execScBeq (n : Nat) (s : State) : Host.Outcome State Fault Refusal := .next (s.on fun m => m.branch n 0x14 (fun a b => a == b))
/-- BNE (R124). -/
def execScBne (n : Nat) (s : State) : Host.Outcome State Fault Refusal := .next (s.on fun m => m.branch n 0x15 (fun a b => a != b))
/-- BLT (R124). -/
def execScBlt (n : Nat) (s : State) : Host.Outcome State Fault Refusal := .next (s.on fun m => m.branch n 0x16 (fun a b => a.slt b))
/-- BGE (R124). -/
def execScBge (n : Nat) (s : State) : Host.Outcome State Fault Refusal := .next (s.on fun m => m.branch n 0x17 (fun a b => !a.slt b))
/-- BLTU (R124). -/
def execScBltu (n : Nat) (s : State) : Host.Outcome State Fault Refusal := .next (s.on fun m => m.branch n 0x18 (fun a b => a.ult b))
/-- BGEU (R124). -/
def execScBgeu (n : Nat) (s : State) : Host.Outcome State Fault Refusal := .next (s.on fun m => m.branch n 0x19 (fun a b => !a.ult b))
/-- JAL: g31 takes the next address (R118, R124). -/
def execScJal (n : Nat) (s : State) : Host.Outcome State Fault Refusal :=
  .next (s.on fun m => m.scRun n 0x1A none (fun w c =>
    m.goTo n (c.setG 31 (BitVec.ofNat 32 (c.pc + 4)))
      (BitVec.ofNat 32 (c.pc + 4) + ((BitVec.ofNat 26 (fld w 25 0)).signExtend 32 <<< 2)).toNat))
/-- JALR: rd takes the next address; the target's bits [1:0] are cleared (R124). -/
def execScJalr (n : Nat) (s : State) : Host.Outcome State Fault Refusal :=
  .next (s.on fun m => m.scRun n 0x1B none (fun w c =>
    m.goTo n (c.setG (wRd w) (BitVec.ofNat 32 (c.pc + 4))) ((c.getG (wRa w) + wSimm w).toNat / 4 * 4)))

/-! Semaphores (R131 to R133). -/

/-- SEMWAIT: wait(ra[4:0], rb); rb above 65,535 is ILLEGAL; granted at once or the S-core blocks (R131). -/
def execScSemwait (n : Nat) (s : State) : Host.Outcome State Fault Refusal :=
  .next (s.on fun m => m.scRun n 0x20 none (fun w c =>
    let sm := (c.getG (wRa w)).toNat % 32
    let k := (c.getG (wRb w)).toNat
    if 65535 < k then m.progFault n fIllegal c.pc
    else match (m.t (scTile n)).semWait 0 sm k with
      | (true, t) => (m.tput (scTile n) t).goNext n c
      | (false, t) => (m.tput (scTile n) t).sput n { c with block := .sem sm k }))
/-- SEMTRY: takes the wait if it can be granted now (R131). -/
def execScSemtry (n : Nat) (s : State) : Host.Outcome State Fault Refusal :=
  .next (s.on fun m => m.scRun n 0x21 none (fun w c =>
    let k := (c.getG (wRb w)).toNat
    if 65535 < k then m.progFault n fIllegal c.pc
    else match (m.t (scTile n)).semWait 0 ((c.getG (wRa w)).toNat % 32) k with
      | (true, t) => (m.tput (scTile n) t).wrRd n (wRd w) 1
      | (false, _) => m.wrRd n (wRd w) 0))
/-- SEMADD: adds signed rb (R131, R132). -/
def execScSemadd (n : Nat) (s : State) : Host.Outcome State Fault Refusal :=
  .next (s.on fun m => m.scRun n 0x22 none (fun w c =>
    (m.tput (scTile n) ((m.t (scTile n)).semAdd ((c.getG (wRa w)).toNat % 32) (c.getG (wRb w)).toInt)).goNext n c))
/-- SEMRD (R131). -/
def execScSemrd (n : Nat) (s : State) : Host.Outcome State Fault Refusal :=
  .next (s.on fun m => m.scRun n 0x23 none (fun w c =>
    m.wrRd n (wRd w) (BitVec.ofNat 32 (tget 0 (m.t (scTile n)).sem ((c.getG (wRa w)).toNat % 32)))))

/-- Engine queue of an engine code of R133. -/
def engQueue (e : Nat) : Nat := e - 2
/-- Remove the first wait of a semaphore. -/
def Tile.popWait (t : Tile) (sem : Nat) : Tile :=
  match t.waits.findIdx? (fun w => w.sem == sem) with
  | some i => { t with waits := ldel t.waits i }
  | none => t
/-- SEMAPHORE_WAIT_GRANT: the oldest wait of the semaphore is granted if its count is there (R133). -/
def Mod.grant (m : Mod) (tile sem : Nat) : Mod :=
  match (m.t tile).semHead sem with
  | none => m
  | some w =>
    let t := (m.t tile).popWait sem
    let m1 := m.tput tile { t with sem := tset t.sem sem (tget 0 t.sem sem - w.cnt) }
    if w.eng = 0 then
      let n := scOf tile
      match (m1.s n).block with
      | .sem _ _ => m1.goNext n { m1.s n with block := .none }
      | _ => m1
    else
      let e := m1.e tile (engQueue w.eng)
      match e.buf.findIdx? (fun d => d.wait == 1) with
      | some i => m1.eput tile (engQueue w.eng) { e with buf := lset e.buf i { nth default e.buf i with wait := 2 } }
      | none => m1
/-- SEMAPHORE_WAIT_GRANT (R133). -/
def execSemaphoreWaitGrant (tile sem : Nat) (s : State) : Host.Outcome State Fault Refusal := .next (s.on fun m => m.grant tile sem)

/-! Control registers (R121). -/

/-- CCLK cycles since the launch: 50 per SAFECLK cycle and a free number below 50 within the present one, never less than a value read
before (R17, log entry 11). -/
def SCore.cycles (c : SCore) (now fr : Nat) : Nat := max c.cyc (50 * (now - c.launch) + fr % 50) % 2 ^ 64
/-- Value read from a control register and the S-core after the read, with a free value for the cycle count; none where it is absent. -/
def rdcVal (c : SCore) (t : Tile) (n now fr r : Nat) : Option (Nat × SCore × Tile) :=
  match r with
  | 0x000 => some (scTile n, c, t)
  | 0x001 => some (c.ctx, c, t)
  | 0x002 => some (nth 0 c.args 0, c, t)
  | 0x003 => some (nth 0 c.args 1, c, t)
  | 0x004 => some (nth 0 c.args 2, c, t)
  | 0x005 => some (nth 0 c.args 3, c, t)
  | 0x010 => some (fld c.ap0 31 16 * 65536, c, t)
  | 0x011 => some (fld c.ap0 47 32, c, t)
  | 0x012 => some (fld c.ap1 31 16 * 65536, c, t)
  | 0x013 => some (fld c.ap1 47 32, c, t)
  | 0x020 => some (c.cycles now fr % 2 ^ 32, { c with cycHi := c.cycles now fr / 2 ^ 32, cyc := c.cycles now fr }, t)
  | 0x021 => some (c.cycHi, c, t)
  | 0x022 => some (now % 2 ^ 32, { c with timeHi := now / 2 ^ 32 % 2 ^ 32 }, t)
  | 0x023 => some (c.timeHi, c, t)
  | 0x030 => some (t.satHi, c, { t with satHi := 0 })
  | 0x031 => some (t.satLo, c, { t with satLo := 0 })
  | _ => none
/-- RDC (R121). -/
def execScRdc (n : Nat) (s : State) : Host.Outcome State Fault Refusal :=
  .next (s.on fun m => m.scRun n 0x24 none (fun w c =>
    let r := m.draw
    match rdcVal c (m.t (scTile n)) n m.time r.1 (wImm w % 4096) with
    | some (v, c1, t) => let m1 := r.2.tput (scTile n) t; m1.goNext n (c1.setG (wRd w) (BitVec.ofNat 32 v))
    | none => m.progFault n fIllegal c.pc))
/-- WRC: a register that is absent, RO or RC is ILLEGAL (R121). -/
def execScWrc (n : Nat) (s : State) : Host.Outcome State Fault Refusal :=
  .next (s.on fun m => m.scRun n 0x25 none (fun w c =>
    let v := (c.getG (wRa w)).toNat
    match wImm w % 4096 with
    | 0x010 => m.goNext n { c with ap0 := setFld c.ap0 31 0 (v / 65536 * 65536) }
    | 0x011 => m.goNext n { c with ap0 := setFld c.ap0 47 32 v }
    | 0x012 => m.goNext n { c with ap1 := setFld c.ap1 31 0 (v / 65536 * 65536) }
    | 0x013 => m.goNext n { c with ap1 := setFld c.ap1 47 32 v }
    | _ => m.progFault n fIllegal c.pc))

/-! Fences, launches, DONE. -/

/-- FENCE: engine and core scope hold at once when no load is out; otherwise the S-core blocks until FENCE_COMPLETE (R211, R212). -/
def execScFence (n : Nat) (s : State) : Host.Outcome State Fault Refusal :=
  .next (s.on fun m => m.scRun n 0x26 none (fun w c =>
    let sc := wImm w % 8
    if 5 ≤ sc then m.progFault n fIllegal c.pc
    else if sc ≤ 1 ∧ c.loads = [] then m.goNext n c
    else m.sput n { c with block := .fence sc }))
/-- FENCE_COMPLETE: once every load has returned and every store is complete at the scope the fence ends (R211, R212). -/
def execFenceComplete (n : Nat) (s : State) : Host.Outcome State Fault Refusal :=
  .next (s.on fun m => match (m.s n).block with
    | .fence sc => if (m.s n).loads = [] ∧ m.quietAt (scTile n) 4 sc then m.goNext n { m.s n with block := .none } else m
    | _ => m)

/-- Region granted to an S-core, by index (R229, R342). -/
def Mod.regionOf (m : Mod) (n : Nat) : Option Nat := m.img.regions.findIdx? (fun r => bitAt r (768 + n))
/-- The queue exists at the tile (R126). -/
def hasQueue (t q : Nat) : Bool :=
  match kindOf t with
  | .mcore => decide (q ≤ 3)
  | .vcore => q == 0 || q == 1 || q == 3
  | _ => false
/-- LAUNCH (R126): the list is queued behind the S-core's earlier stores (R214); while one waits for a die, so does the instruction. A list is
pending until its first descriptor has been fetched (log entry 77). -/
def Mod.launch (m : Mod) (n : Nat) (w : Nat) (c : SCore) : Mod :=
  match m.dataRec n (c.getG (wRa w)).toNat 32 with
  | .error f => m.progFault n f c.pc
  | .ok bs =>
    let x := leNat bs
    let t := fld x 9 0
    let q := fld x 11 10
    let inReg := match m.regionOf n with | some r => inRegion (nth 0 m.img.regions r) t | none => false
    let e := m.e t q
    let st :=
      if fld x 95 80 = 0 ∨ fld x 15 12 ≠ 0 ∨ fld x 255 96 ≠ 0 then 0x0904
      else if !inReg ∧ kindOf t ≠ .none then 0x0901
      else if !hasQueue t q then 0x0902
      else if 64 ≤ (e.lists.filter (fun l => l.fetched == 0)).length then 0x0903
      else 0
    if st = 0 then
      let m1 := m.fenceSc n
      if !m1.quietCore (scTile n) 4 then m1
      else
      let e1 := m1.e t q
      let l : DList := { id := e1.next, base := fld x 79 32, count := fld x 95 80, chan := fld x 31 16, ctx := c.ctx }
      -- a core outside the die set is noted, for its saturation flags are the command's (R132)
      let note (r : Run) : Run := if (crDieList r.cr).contains (tDie t) || r.outside.contains t then r else { r with outside := t :: r.outside }
      ((m1.eput t q { e1 with lists := e1.lists ++ [l], next := e1.next + 1 }).runMap c.ctx note).wrRd n (wRd w) 0
    else m.wrRd n (wRd w) (BitVec.ofNat 32 st)
/-- LAUNCH (R126). -/
def execScLaunch (n : Nat) (s : State) : Host.Outcome State Fault Refusal :=
  .next (s.on fun m => m.scRun n 0x27 none (fun w c => m.launch n w c))
/-- DONE: a module fence, which waits for loads and for stores that wait for a die; then the channels it reads close, a held ICP lock is
released, the status is reported (R129, R130). -/
def execScDone (n : Nat) (s : State) : Host.Outcome State Fault Refusal :=
  .next (s.on fun m => m.scRun n 0x30 none (fun w c =>
    let m0 := m.fenceSc n
    if !(m0.s n).loads.isEmpty || !m0.quietCore (scTile n) 4 then m0
    else
    let m1 := m0.closeReads n
    let m2 := if m1.icp.holder = some n then { m1 with icp := { m1.icp with holder := none } } else m1
    let m3 := m2.sput n { m2.s n with running := false, doneSt := some (c.getG (wRa w)).toNat }
    { m3 with safe := { m3.safe with reports := m3.safe.reports ++ [n] } }))

/-- The word names an opcode of Table 5.10 or a function of Table 5.11. -/
def listed (w : Nat) : Bool :=
  let op := fld w 31 26
  if op = 0 then decide (fld w 10 0 ≤ 0x10)
  else decide (op ≤ 0xE) || decide (0x10 ≤ op ∧ op ≤ 0x12) || decide (0x14 ≤ op ∧ op ≤ 0x1B) || decide (0x20 ≤ op ∧ op ≤ 0x30)
/-- ILLEGAL: an unlisted opcode or function is a program fault (R124, R125). -/
def execScIllegal (n : Nat) (s : State) : Host.Outcome State Fault Refusal :=
  .next (s.on fun m =>
    let c := m.s n
    if c.running && c.block == .none && decide (n < 64) then
      (if 0x30000 ≤ c.pc then m.progFault n (fetchFault c.pc) c.pc
       else if listed (m.scWord n) then m else m.progFault n fIllegal c.pc)
    else m)

end Sys2Proof.Machine
end

