-- ==== Sys2Proof/Machine/SlideChecks.lean ====
section
/-! DEFINITION. The checks of slides, runs, programs and the stream graph (R158, R161, R168, R175, R183, R192, R193, R231,
Table 7.14). A tile table gives the slides to check; a slide counts as valid when its state there is not INVALID. -/

namespace Sys2Proof.Machine

/-- Valid slides of a tile. -/
def Tile.valid (t : Tile) : List Nat := (List.range 8).filter (fun e => t.slState e != 0)
/-- Number of outputs a unit writes (Table 7.5): none when off. -/
def uMade (w : Nat) : List Nat := if uKind w = 0 then [] else uOuts w
/-- A tile is a core. -/
def isCore (t : Nat) : Bool := kindOf t == .mcore || kindOf t == .vcore || kindOf t == .score
/-- A tile has stream endpoints (R170). -/
def hasEps (t : Nat) : Bool := kindOf t == .mcore || kindOf t == .vcore

/-- A reserved field of a slide is not zero (R175). -/
def slideFormat (tile : Nat) (t : Tile) (e : Nat) : Bool :=
  let z (o n : Nat) : Bool := (mrange t.frames (4096 * e + o) n).isEmpty
  fld (t.sl e 0 1) 7 1 != 0 || !z 1 63 || (!isCore tile && !z 64 64)
  || (List.range 4).any (fun u => bitAt (t.unit e u) 23 || fld (t.unit e u) 127 76 != 0)
  || (List.range 8).any (fun k => fld (t.ep e k) 63 15 != 0)
  || (List.range 32).any (fun i => let w := t.prog' e i; fld w 15 13 != 0 || (fld w 1 0 == 1 && fld w 12 7 != 0))
  || !z 384 640 || (List.range 256).any (fun r => fld (t.route e r) 63 29 != 0)
  || (if kindOf tile = .mem then !z 3200 896 || (List.range 256).any (fun i => bitAt (t.sl e (3072 + i / 2) 1) (4 * (i % 2) + 3))
      else !z 3072 1024)

/-- Where a FORWARD entry leads: the tile and input; none to the I/O die's endpoints; an error off the grid. -/
def forwardTo (tile d : Nat) : Except Unit (Option (Nat × Nat)) :=
  if 3 < d then .error ()
  else match neighbour tile d with
    | some x => .ok (some x)
    | none => if tRow tile = 0 ∧ d = 0 ∧ tCol tile ≤ 1 then .ok none else .error ()
/-- Pairs of a list. -/
def pairsOf {α : Type} : List α → List (α × α)
  | [] => []
  | x :: xs => xs.map (fun y => (x, y)) ++ pairsOf xs
/-- ROUTE_TABLE of a slide (Table 7.14). -/
def routeTable (T : Tbl Tile) (tile : Nat) (t : Tile) (e : Nat) : Bool :=
  let rs := t.routes e
  let units := (List.range 4).map (t.unit e)
  let steer := (rs.filter (fun r => rAction r == 2)).map (fun r => 8 * rInput r + rQueue r)
  let made := ((List.range 8).filter (fun k => t.binds e k true)).map (fun k => fld (t.ep e k) 12 0) ++ units.flatMap uMade
  (pairsOf rs).any (fun p => rInput p.1 == rInput p.2 && rStream p.1 == rStream p.2)
  || rs.any (fun r => decide (4 < rInput r) || decide (2 < rAction r))
  || rs.any (fun r => rAction r == 0 && (match forwardTo tile (rOut r) with
      | .error _ => true
      | .ok none => false
      | .ok (some (t2, inp)) =>
        let y := tget {} T t2
        y.slState e == 0 || (match y.entry e inp (rStream r) with | some k => rQueue k != rNext r | none => true)))
  || rs.any (fun r => rAction r == 1 && !t.binds e (rOut r) false)
  || steer.any (fun q => !units.any (fun w => (uIns w).contains q))
  || units.any (fun w => (uIns w).any (fun q => !steer.contains q))
  || made.any (fun s => (t.entry e 4 s).isNone)
/-- QUEUE_BINDING across the valid slides of a tile (R168). -/
def queueBinding (t : Tile) : Bool :=
  let ks := t.valid.flatMap (fun e => (t.routes e).map (fun r => (8 * rInput r + rQueue r, rStream r)))
  (pairsOf ks).any (fun p => (p.1.1 == p.2.1) != (p.1.2 == p.2.2))
/-- STEER_CONFIG of a slide. -/
def steerConfig (t : Tile) (e : Nat) : Bool :=
  let us := (List.range 4).map (t.unit e)
  us.any (fun w => decide (4 < uKind w) || (uIns w).any (fun q => decide (39 < q))
    || ((uKind w == 2 || uKind w == 4) && fld w 22 21 != 0))
  || (pairsOf (us.flatMap uIns)).any (fun p => p.1 == p.2)
/-- A program that R183 rejects, the slides it names aside. -/
def badProgram (t : Tile) (e : Nat) : Bool :=
  fld (t.prog' e 0) 1 0 != 0 || (List.range 32).any (fun i =>
    let w := t.prog' e i
    match fld w 1 0 with
    | 0 => match fld w 6 5 with
      | 0 => false
      | 1 => decide (39 < fld w 12 7) || fld w 31 16 == 0 || i == 31
      | _ => true
    | 1 => decide (i ≤ fld w 6 2) || fld w 31 16 == 0 || i == 31
    | _ => true)
/-- The program in slide e names only valid slides (R183). -/
def namesValid (t : Tile) (e : Nat) : Bool := (List.range 8).all (fun k => !t.names e k || t.slState k != 0)
/-- CAROUSEL of a tile at activation (R161, R183). -/
def carousel (t : Tile) : Bool :=
  match t.valid.filter (fun e => bitAt (t.sl e 0 1) 0) with
  | [h] => badProgram t h || !namesValid t h
  | _ => true
/-- CAROUSEL of a slide that the ICP has written: a program that R183 rejects in a slide that carries HOME; and the home slide, whose program
the tile runs, still carries HOME and names valid slides only (R161, R183, R359). -/
def carouselOf (t : Tile) (e : Nat) : Bool :=
  let home := bitAt (t.sl e 0 1) 0
  (home && badProgram t e) || (e == t.home && (!home || !namesValid t e))
/-- Codes of one tile's slides and program, but for the stream graph; es are the slides checked (R193). -/
def tileCode (T : Tbl Tile) (tile : Nat) (es : List Nat) (base : Bool) : Nat :=
  let t := tget {} T tile
  firstErr [
    (es.any (slideFormat tile t), 0x0101), (es.any (routeTable T tile t), 0x0102), (queueBinding t, 0x0103),
    (es.any (steerConfig t), 0x0107), (!hasEps tile && es.any (fun e => (List.range 8).any (fun k => bitAt (t.ep e k) 14)), 0x0108),
    (if base then carousel t else es.any (carouselOf t), 0x0109)]

/-! The stream graph (R158, R192). -/

/-- A node: tile, kind (0 source endpoint, 1 steering unit, 2 sink, 3 external side) and number. -/
abbrev GNode := Nat × Nat × Nat
/-- Producers of streams over all valid slides: node, output number, stream, slide. -/
def producersOf (T : Tbl Tile) : List (GNode × Nat × Nat × Nat) :=
  T.flatMap (fun p => p.2.valid.flatMap (fun e =>
    ((List.range 8).filter (fun k => p.2.binds e k true)).map (fun k => ((p.1, 0, k), 0, fld (p.2.ep e k) 12 0, e))
    ++ (List.range 4).flatMap (fun u => (uMade (p.2.unit e u)).zipIdx.map (fun o => ((p.1, 1, u), o.2, o.1, e)))
    ++ (if tRow p.1 = 0 ∧ tCol p.1 ≤ 1 then ((p.2.routes e).filter (fun r => rInput r == 0)).map (fun r => ((p.1, 3, 0), 0, rStream r, e)) else [])))
/-- Streams a tile mentions in any valid slide. -/
def mentions (t : Tile) : List Nat :=
  t.valid.flatMap (fun e => (t.routes e).map rStream ++ ((List.range 8).filter (fun k => bitAt (t.ep e k) 14)).map (fun k => fld (t.ep e k) 12 0)
    ++ (List.range 4).flatMap (fun u => uMade (t.unit e u)))
/-- Distinct elements. -/
def nub {α : Type} [BEq α] (l : List α) : List α := l.foldl (fun acc x => if acc.contains x then acc else acc ++ [x]) []
/-- STREAM_SOURCE: the first tile that mentions a stream whose producers are not exactly one (R158). -/
def streamSource (T : Tbl Tile) : Option Nat :=
  let ps := nub ((producersOf T).map (fun p => (p.1, p.2.1, p.2.2.1)))
  (T.find? (fun p => (mentions p.2).any (fun s => (ps.filter (fun q => q.2.2 == s)).length != 1))).map (fun p => p.1)
/-- The run of a stream in slide e from an input of a tile: tile, queue and entry of every hop. -/
def runOf (T : Tbl Tile) (e s : Nat) : Nat → Nat → Nat → List (Nat × Nat × Nat)
  | 0, _, _ => []
  | f + 1, tile, inp =>
    match (tget {} T tile).entry e inp s with
    | none => []
    | some r =>
      (tile, 8 * inp + rQueue r, r) :: (if rAction r = 0 then
        match neighbour tile (rOut r) with
        | some (t2, i2) => runOf T e s f t2 i2
        | none => []
      else [])
/-- The run of a producer's stream. -/
def runFrom (T : Tbl Tile) (p : GNode × Nat × Nat × Nat) : List (Nat × Nat × Nat) :=
  runOf T p.2.2.2 p.2.2.1 4096 p.1.1 (if p.1.2.1 = 3 then 0 else 4)
/-- Consumer at the end of a run: the node and the queue it takes from. -/
def consumerOf (T : Tbl Tile) (e : Nat) (run : List (Nat × Nat × Nat)) : Option (GNode × Nat) :=
  match run.getLast? with
  | some (tile, q, r) =>
    if rAction r = 1 then some ((tile, 2, rOut r), q)
    else if rAction r = 2 then
      ((List.range 4).find? (fun u => (uIns ((tget {} T tile).unit e u)).contains q)).map (fun u => ((tile, 1, u), q))
    else none
  | none => none
/-- Places along a run (R231). -/
def placesOf (run : List (Nat × Nat × Nat)) : Nat := (run.map (fun h => queueCap h.1 h.2.1)).sum
/-- Arcs along streams: producer, consumer, the consumer's queue, places, slide. -/
def streamArcs (T : Tbl Tile) : List (GNode × GNode × Nat × Nat × Nat) :=
  (producersOf T).filterMap (fun p => let run := runFrom T p
    (consumerOf T p.2.2.2 run).map (fun c => (p.1, c.1, c.2, placesOf run, p.2.2.2)))
/-- Source endpoints of a tile in any valid slide. -/
def tileSources (T : Tbl Tile) (tile : Nat) : List GNode :=
  let t := tget {} T tile
  ((List.range 8).filter (fun k => t.valid.any (fun e => t.binds e k true))).map (fun k => (tile, 0, k))
/-- Arcs of the graph of R192. -/
def graphArcs (T : Tbl Tile) : List (GNode × GNode) :=
  let sa := (streamArcs T).map (fun a => (a.1, a.2.1))
  nub (sa ++ (nub (sa.map (fun a => a.2))).flatMap (fun c => (tileSources T c.1).map (fun s => (c, s))))
/-- Remove nodes with no arc out of them or into them until none is left or none can go. -/
def prune : Nat → List (GNode × GNode) → List (GNode × GNode)
  | 0, l => l
  | f + 1, l =>
    let l2 := l.filter (fun a => l.any (fun b => b.1 == a.2) && l.any (fun b => b.2 == a.1))
    if l2.length = l.length then l else prune f l2
/-- STREAM_CYCLE: the lowest tile on a cycle. -/
def streamCycle (T : Tbl Tile) : Option Nat :=
  let l := graphArcs T
  match (prune l.length l).map (fun a => a.1.1) with
  | [] => none
  | x :: xs => some (xs.foldl Nat.min x)
/-- STREAM_REGION: the lowest tile at which a run leaves its producer's region (R193). -/
def streamRegion (T : Tbl Tile) (regions : List Nat) : Option Nat :=
  let bad := (producersOf T).filterMap (fun p =>
    match regions.find? (fun r => inRegion r p.1.1) with
    | some r => ((runFrom T p).find? (fun h => !inRegion r h.1)).map (fun h => h.1)
    | none => none)
  match bad with
  | [] => none
  | x :: xs => some (xs.foldl Nat.min x)

/-! Reconvergences (R231). -/

/-- Depth declaration fields (Table 13.11). -/
def dTile (d : Nat) : Nat := fld d 9 0
/-- The reconvergence point that a declaration names: a unit, or two sinks in either order (R231, R342). -/
def dPoint (d : Nat) : Nat :=
  if fld d 15 13 = 4 then fld d 15 0 + 2 ^ 16 * Nat.min (fld d 18 16) (fld d 21 19) + 2 ^ 19 * Nat.max (fld d 18 16) (fld d 21 19) else fld d 15 0
def dPlaces (d : Nat) : Nat := fld d 63 32
/-- A node reached with a number of places, kept with the fewest found so far. -/
def putLeast (l : List (GNode × Nat)) (x : GNode × Nat) : List (GNode × Nat) :=
  if l.any (fun y => y.1 == x.1) then l.map (fun y => if y.1 == x.1 then (x.1, Nat.min x.2 y.2) else y) else l ++ [x]
/-- Fewest places from a set of reached nodes onward: nodes with the least places found so far. -/
def relax (arcs : List (GNode × GNode × Nat × Nat × Nat)) (T : Tbl Tile) : Nat → List (GNode × Nat) → List (GNode × Nat)
  | 0, l => l
  | f + 1, l =>
    let new := l.flatMap (fun x =>
      (arcs.filter (fun a => a.1 == x.1)).map (fun a => (a.2.1, x.2 + a.2.2.2.1))
      ++ (if x.1.2.1 = 1 ∨ x.1.2.1 = 2 then (tileSources T x.1.1).map (fun s => (s, x.2)) else []))
    let l2 := new.foldl putLeast l
    if l2 == l then l else relax arcs T f l2
/-- Fewest places by which an origin's output reaches each consumer queue: (tile, slide, queue or 64 + sink, places). -/
def reachQueues (T : Tbl Tile) (arcs first : List (GNode × GNode × Nat × Nat × Nat)) : List (Nat × Nat × Nat × Nat) :=
  let ends (a : GNode × GNode × Nat × Nat × Nat) (w : Nat) : Nat × Nat × Nat × Nat :=
    (a.2.1.1, a.2.2.2.2, if a.2.1.2.1 = 2 then 64 + a.2.1.2.2 else a.2.2.1, w + a.2.2.2.1)
  let seeds := first.map (fun a => (a.2.1, a.2.2.2.1))
  let r := relax arcs T (2 * arcs.length + 2)
    ((seeds ++ seeds.flatMap (fun x => (tileSources T x.1.1).map (fun s => (s, x.2)))).foldl putLeast [])
  first.map (fun a => ends a 0) ++ r.flatMap (fun x => (arcs.filter (fun a => a.1 == x.1)).map (fun a => ends a x.2))
/-- QUEUE_DEPTH: the lowest tile with a reconvergence that no declaration covers, or one whose path has too few places (R231). -/
def queueDepth (T : Tbl Tile) (depths : List Nat) : Option Nat :=
  let arcs := streamArcs T
  -- origins: one output of a unit, or one source endpoint
  let tagged := (producersOf T).filterMap (fun p => let run := runFrom T p
    (consumerOf T p.2.2.2 run).map (fun c => ((p.1, p.2.1), (p.1, c.1, c.2, placesOf run, p.2.2.2))))
  let origins := (nub (tagged.map (fun x => x.1))).filter (fun o => o.1.2.1 ≤ 1)
  -- no declaration names the point, or one of those that do has a path with too few places
  let need (keys : List Nat) (a b : Nat) : Bool :=
    let ds := depths.filter (fun d => keys.contains (dPoint d))
    ds.isEmpty || ds.any (fun d => decide (a < dPlaces d) || decide (b < dPlaces d))
  let bad := origins.flatMap (fun o =>
    let rq := reachQueues T arcs ((tagged.filter (fun x => x.1 == o)).map (fun x => x.2))
    (pairsOf rq).filterMap (fun p =>
      let (ta, ea, qa, wa) := p.1
      let (tb, eb, qb, wb) := p.2
      if ta ≠ tb ∨ qa = qb then none
      else if qa < 64 ∧ qb < 64 then
        (if ea ≠ eb then none
         else match (List.range 4).find? (fun u => (uIns ((tget {} T ta).unit ea u)).contains qa && (uIns ((tget {} T ta).unit ea u)).contains qb) with
           | some u => if need [ta + ea * 2 ^ 10 + u * 2 ^ 13] wa wb then some ta else none
           | none => none)
      else if 64 ≤ qa ∧ 64 ≤ qb then
        let k (e : Nat) : Nat := ta + e * 2 ^ 10 + 4 * 2 ^ 13 + Nat.min (qa - 64) (qb - 64) * 2 ^ 16 + Nat.max (qa - 64) (qb - 64) * 2 ^ 19
        (if need [k ea, k eb] wa wb then some ta else none)
      else none))
  match bad with
  | [] => none
  | x :: xs => some (xs.foldl Nat.min x)

/-- Failures of the stream graph, each with its lowest tile: STREAM_SOURCE, STREAM_CYCLE, STREAM_REGION, QUEUE_DEPTH (R193). -/
def graphErrs (T : Tbl Tile) (regions depths : List Nat) : List (Nat × Nat) :=
  ((streamSource T).map (fun t => (0x0104, t))).toList ++ ((streamCycle T).map (fun t => (0x0105, t))).toList
    ++ ((streamRegion T regions).map (fun t => (0x0106, t))).toList ++ ((queueDepth T depths).map (fun t => (0x0112, t))).toList
/-- The first of them in the order of the codes. -/
def graphBad (T : Tbl Tile) (regions depths : List Nat) : Option (Nat × Nat) := (graphErrs T regions depths).head?
/-- Every tile of the module with its slides. -/
def Mod.tiles (m : Mod) : Tbl Tile := allTiles.map (fun i => (i, m.t i))

end Sys2Proof.Machine
end

