-- ==== Sys2Proof/Machine/Icp.lean ====
section
/-! DEFINITION. The ICP: its lock, loads of partial images, commits and switches (R125, R129, R184 to R191, R356 to R365). -/

namespace Sys2Proof.Machine

def Mod.icpMap (m : Mod) (f : Icp → Icp) : Mod := { m with icp := f m.icp }
/-- Frame address fields (Table 13.13). -/
def faTile (a : Nat) : Nat := fld a 9 0
def faProg (a : Nat) : Bool := bitAt a 10
def faSlide (a : Nat) : Nat := fld a 13 11
def faFrame (a : Nat) : Nat := fld a 15 14
def faIndex (a : Nat) : Nat := fld a 18 11
/-- The frame address names a frame of the module. -/
def faOk (a : Nat) : Bool :=
  fld a 31 19 == 0 && (if faProg a then kindOf (faTile a) == .score && decide (faIndex a < 192)
    else kindOf (faTile a) != .none && fld a 18 16 == 0)
/-- Write one frame into a tile's slides or program area (R357). -/
def Tile.putFrame (t : Tile) (a : Nat) (bs : List Byte) : Tile :=
  if faProg a then { t with prog := mwrite 0 t.prog (1024 * faIndex a) bs }
  else { t with frames := mwrite 0 t.frames (4096 * faSlide a + 1024 * faFrame a) bs }
/-- Slides named by a frame table, as 8 * tile + slide. -/
def namedSlides (fs : List Nat) : List Nat := nub ((fs.filter (fun a => !faProg a)).map (fun a => 8 * faTile a + faSlide a))
/-- Set the state of a slide. -/
def Mod.setSlide (m : Mod) (k st : Nat) : Mod :=
  let t := m.t (k / 8)
  m.tput (k / 8) { t with slide := if st = 0 then tdel t.slide (k % 8) else tset t.slide (k % 8) st }

/-- Offsets in a partial image (Table 13.18). -/
def pad64 (n : Nat) : Nat := 64 * ceilDiv n 64
def piDepth (n : Nat) : Nat := 64 + pad64 (4 * n)
def piPay (n d : Nat) : Nat := piDepth n + pad64 (16 * d)

/-- A request of S-core n ends, op 0 a load and 1 a commit: the status registers, which describe it alone, and ICP_DONE (R391, Table 14.8;
log entry 104). -/
def Mod.icpEnd (m : Mod) (n op status : Nat) : Mod :=
  (m.icpMap (fun i => { i with status := status, requester := n, op := op })).raiseEv evCfg 1
/-- M_PARTIAL with its value zero at activation (R364). -/
def Image.partialM (i : Image) : List Byte := if i.mPartial.isEmpty then List.replicate 48 0 else i.mPartial
/-- Extend M_PARTIAL by the hash of some bytes (R365); clear the loader's kept results (R224). -/
def Mod.measure (m : Mod) (bs : List Byte) (commit : Bool) : Mod :=
  { m with
    img := { m.img with mPartial := sha384 (m.img.partialM ++ sha384 bs),
                        nPartial := m.img.nPartial + (if commit then 0 else 1), nCommit := m.img.nCommit + (if commit then 1 else 0) },
    safe := { m.safe with kept := [] } }

/-! The lock (R125, R129, R363). -/

/-- ICPACQ: 1 when the lock is taken or already held, 0 otherwise, and 0 while a load outlives its broken lock (R129, R363). -/
def execScIcpacq (n : Nat) (s : State) : Host.Outcome State Fault Refusal :=
  .next (s.on fun m => m.scRun n 0x2D none (fun w _ =>
    if m.icp.holder = some n then m.wrRd n (wRd w) 1
    else if m.icp.holder.isNone ∧ m.icp.load.isNone then (m.icpMap (fun i => { i with holder := some n })).wrRd n (wRd w) 1
    else m.wrRd n (wRd w) 0))
/-- ICPREL: releases a lock that this S-core holds (R129). -/
def execScIcprel (n : Nat) (s : State) : Host.Outcome State Fault Refusal :=
  .next (s.on fun m => m.scRun n 0x2F none (fun _ c =>
    (if m.icp.holder = some n then m.icpMap (fun i => { i with holder := none }) else m).goNext n c))
/-- ICP_LOCK_BREAK: 100 µs after the fault of its holder the lock is broken (R125). -/
def execIcpLockBreak (s : State) : Host.Outcome State Fault Refusal :=
  .next (s.on fun m => match m.icp.breakOf with
    | some n => m.icpMap (fun i => { i with holder := if i.holder = some n then none else i.holder, breakOf := none })
    | none => m)

/-! Loads (R359). -/

/-- The header of a partial image breaks Table 13.18. -/
def headBad (h : Nat) : Bool :=
  fld h 31 0 != 0x5241504B || fld h 63 32 == 0 || decide (24576 < fld h 63 32) || decide (1024 < fld h 95 64) || fld h 511 96 != 0
/-- Steps 2 to 4 for a table of frames: the code, 0 when the load is accepted. Padding after either table that is not zero is taken as a
reserved field (R5): DESIGN CHOICE, Table 13.18 says only that the tables are padded to 64 bytes (log entry 105). -/
def Mod.loadCode (m : Mod) (n a : Nat) (discard : Bool) : Nat :=
  let h := m.rdn a 64
  let nf := fld h 63 32
  let nd := fld h 95 64
  let fs := (List.range nf).map (fun i => m.rdn (a + 64 + 4 * i) 4)
  let ds := (List.range nd).map (fun i => m.rdn (a + piDepth nf + 16 * i) 16)
  let zero (o k : Nat) : Bool := (m.rd (a + o) k).all (fun b => b == 0)
  let reg := m.regionOf n
  let inReg (t : Nat) : Bool := match reg with | some r => inRegion (nth 0 m.img.regions r) t | none => false
  let named := namedSlides fs
  let reserve := match reg with | some r => fld (nth 0 m.img.regions r) 834 832 | none => 0
  let busy (k : Nat) : Bool :=
    let t := m.t (k / 8)
    k % 8 == t.cur || t.changing == some (k % 8) || t.want == some (k % 8) || (!discard && t.holds (k % 8))
  let full (tile : Nat) : Bool :=
    let t := m.t tile
    -- the home slide as the load leaves it
    let h := fs.zipIdx.foldl (fun t p => if !faProg p.1 && faTile p.1 == tile && faSlide p.1 == t.home
      then t.putFrame p.1 (m.rd (a + piPay nf nd + 1088 * p.2 + 64) 1024) else t) t
    decide (8 < ((List.range 8).filter (fun e => (t.slState e != 0 || named.contains (8 * tile + e)) && (e == t.cur || e == t.home || h.names t.home e))).length + reserve)
  firstErr [
    (!zero (64 + 4 * nf) (pad64 (4 * nf) - 4 * nf) || !zero (piDepth nf + 16 * nd) (pad64 (16 * nd) - 16 * nd)
      || fs.any (fun f => !faOk f) || decide ((nub fs).length < fs.length)
      || ds.any (fun d => fld d 31 22 != 0 || fld d 127 64 != 0 || kindOf (dTile d) == .none || decide (4 < fld d 15 13)), 0x0D02),
    (fs.any (fun f => !inReg (faTile f)), 0x0D03),
    (fs.any (fun f => !faProg f && m.icp.pend.any (fun p => inRegion (nth 0 m.img.regions p.1) (faTile f))), 0x0D07),
    (named.any busy || fs.any (fun f => faProg f && (m.s (scOf (faTile f))).running), 0x0D04),
    (named.any (fun k => full (k / 8)), 0x0111)]
/-- Step 5: a named slide becomes INVALID, and DISCARD removes its tokens (R184, R185). -/
def Mod.dropSlide (m : Mod) (discard : Bool) (k : Nat) : Mod :=
  let i := k / 8
  let m1 := m.setSlide k 0
  if !discard then m1.restall i
  else
    let t := m1.t i
    let hit (x : Token) : Bool := x.epoch == k % 8
    let n := (t.queues.map (fun p => (p.2.filter hit).length)).sum
    let t1 := { t with queues := (t.queues.map (fun p => (p.1, p.2.filter (fun x => !hit x)))).filter (fun p => !p.2.isEmpty),
                       discard := linsert (k % 8) t.discard }
    ((m1.tput i t1).icpMap (fun j => { j with disc := tset j.disc (tDie i) (tget 0 j.disc (tDie i) + n) })).restall i
/-- Payload records that step 4 looks at: those of the home slides as the load leaves them (R230). -/
def Mod.homeRecs (m : Mod) (a : Nat) (fs : List Nat) (pay : Nat) : List (Option Nat × Nat) :=
  (fs.zipIdx.filter (fun p => !faProg p.1 && faSlide p.1 == (m.t (faTile p.1)).home)).map (fun p => (some (a + pay + 1088 * p.2 + 64), 1024))
/-- A LOAD request that has been read is accepted or ends with a code (R359 steps 2 to 5). -/
def Mod.icpStart (m : Mod) (n rd c a : Nat) (discard : Bool) : Mod :=
  let code := m.loadCode n a discard
  if code ≠ 0 then (m.icpEnd n 0 code).wrRd n rd (BitVec.ofNat 32 code)
  else
    let nf := fld (m.rdn a 64) 63 32
    let nd := fld (m.rdn a 64) 95 64
    let fs := (List.range nf).map (fun i => m.rdn (a + 64 + 4 * i) 4)
    let ds := (List.range nd).map (fun j => m.rdn (a + piDepth nf + 16 * j) 16)
    let m1 := m.icpMap (fun i => { i with load := some (n, a), ctx := c, frames := fs, bytes := m.rd a (piPay nf nd), depths := ds })
    let m2 := (namedSlides fs).foldl (fun m k => m.dropSlide discard k) m1
    m2.sput n { m2.s n with block := .icp rd }
/-- A LOAD request: the ICP reads the header, the tables and what the budget needs for the command of its S-core, like any requester, and
starts the load or ends it (R140, R359). -/
def Mod.icpLoad (m : Mod) (n rd c a : Nat) (discard : Bool) : Mod :=
  if !mapped a 64 then m.unmappedFault (scTile n) a
  else if a % 64 ≠ 0 then (m.icpEnd n 0 0x0D02).wrRd n rd 0x0D02
  else match m.fetch icpId c a 64 with
    | (none, m1) => m1
    | (some hb, m1) =>
      let nf := fld (leNat hb) 63 32
      let pay := piPay nf (fld (leNat hb) 95 64)
      if headBad (leNat hb) then (m1.icpEnd n 0 0x0D02).wrRd n rd 0x0D02
      else if !mapped a pay then m1.unmappedFault (scTile n) a
      else match m1.fetch icpId c (a + 64) (pay - 64) with
        | (none, m2) => m2
        | (some _, m2) =>
          let fs := (List.range nf).map (fun i => m2.rdn (a + 64 + 4 * i) 4)
          match m2.readRanges icpId 4 c (if m2.loadCode n a discard = 0 ∨ m2.loadCode n a discard = 0x0111 then m2.homeRecs a fs pay else []) with
          | (none, m3) => m3
          | (some _, m3) => m3.icpStart n rd c a discard

/-! Commits (R187, R188, R361). -/

/-- Slides that the staged program of a tile names, and the staged home. -/
def Tile.stagedSlides (t : Tile) : List Nat := (List.range 8).filter (fun e => e == t.stagedHome || t.names t.stagedHome e)
/-- COMMIT_SCOPE of a tile (R187). A staged FORWARD to the I/O die's endpoints (columns 0 and 1 of row 0) does not leave the scope: DESIGN
CHOICE, R187 does not say (log entry 106). -/
def Mod.scopeBad (m : Mod) (r tile : Nat) : Bool :=
  let t := m.t tile
  t.staged.length != 1 || (List.range 8).any (fun e => t.names t.stagedHome e && t.slState e != 2)
  || t.stagedSlides.any (fun e => (t.routes e).any (fun x => rAction x == 0 && (match forwardTo tile (rOut x) with
      | .error _ => true
      | .ok none => false
      | .ok (some (t2, inp)) => !inRegion r t2 || (m.t t2).slState e == 0 || (match (m.t t2).entry e inp (rStream x) with | some k => rQueue k != rNext x | none => true))))
/-- A COMMIT request (R361). -/
def Mod.icpCommit (m : Mod) (n rd : Nat) (rec : List Byte) : Mod :=
  let x := leNat rec
  let reg := m.regionOf n
  let rg := match reg with | some r => nth 0 m.img.regions r | none => 0
  let r := reg.getD 0
  let c := fld x 127 96
  let code := firstErr [
    (fld x 63 0 != 0, 0x0D02),
    (reg.isSome && (tget? m.icp.pend r).isSome, 0x0D07),
    (reg.isNone || (tget? m.icp.quiet r).isSome || (allTiles.filter (inRegion rg)).any (m.scopeBad rg), 0x0D06)]
  if code ≠ 0 then (m.icpEnd n 1 code).wrRd n rd (BitVec.ofNat 32 code)
  else
    let m1 := m.icpMap (fun i => { i with pend := tset i.pend r c, reqRec := tset i.reqRec r rec,
                                          hold := if bitAt x 73 then tset i.hold r true else i.hold })
    let m2 := if bitAt x 73 then m1 else m1.deliver r c
    if bitAt x 74 then m2.sput n { m2.s n with block := .icpWait rd r }
    else (m2.icpEnd n 1 0).wrRd n rd 0
/-- ICPLOAD: a load or commit request from its 32-byte record; without the lock ICP_NOT_HELD (R358, R359, R361). It waits while a load that
outlived its S-core runs (R363). -/
def execScIcpload (n : Nat) (s : State) : Host.Outcome State Fault Refusal :=
  .next (s.on fun m => m.scRun n 0x2E none (fun w c =>
    match m.dataRec n (c.getG (wRa w)).toNat 32 with
    | .error f => m.progFault n f c.pc
    | .ok rec =>
      let x := leNat rec
      let op := fld x 71 64
      if m.icp.holder ≠ some n then (m.icpEnd n (op % 2) 0x0D01).wrRd n (wRd w) 0x0D01
      else if 1 < op ∨ fld x 63 48 ≠ 0 ∨ fld x 79 75 ≠ 0 ∨ fld x 95 80 ≠ 0 ∨ fld x 255 128 ≠ 0 then (m.icpEnd n (op % 2) 0x0D02).wrRd n (wRd w) 0x0D02
      else if m.icp.load.isSome then m
      else if op = 0 then (m.icpMap (fun i => { i with disc := [] })).icpLoad n (wRd w) c.ctx (fld x 47 0) (bitAt x 72)
      else m.icpCommit n (wRd w) rec))

/-! The end of a load (R359 steps 6 to 8, R360). -/

/-- Payload records are read and written in order up to the first that departs from the table, or whose read has no effect for a breach of a
tenancy: the module, the bytes read, and whether all of them agreed (R140, R359 step 6; log entry 105). -/
def Mod.payload (m : Mod) (a : Nat) : List (Nat × Nat) → List Byte → Mod × List Byte × Bool
  | [], bs => (m, bs, true)
  | (f, i) :: fs, bs =>
    match m.fetch icpId m.icp.ctx (a + 1088 * i) 1088 with
    | (none, m) => (m, bs, false)
    | (some r, m) =>
    if leNat (r.take 8) = f + 2 ^ 32 * i ∧ ((r.drop 8).take 56).all (fun b => b == 0) then
      (m.tput (faTile f) ((m.t (faTile f)).putFrame f (r.drop 64))).payload a fs (bs ++ r)
    else (m, bs ++ r, false)
/-- The first failing check of the written slides, in increasing tile identity (R359 step 7). -/
def Mod.slidesCode (m : Mod) (named ds : List Nat) : Nat :=
  let T : Tbl Tile := (named.foldl (fun m k => m.setSlide k 2) m).tiles
  let ts := sortBy (fun x y => decide (x < y)) (nub (named.map (· / 8)))
  let depths := ds ++ m.img.depths.filter (fun d => !ds.any (fun k => dPoint k == dPoint d))
  let own := ts.filterMap (fun i =>
    let c := tileCode T i ((named.filter (fun k => k / 8 == i)).map (· % 8)) false
    if c = 0 then none else some (c, i))
  let all := own ++ graphErrs T m.img.regions depths
  match all with
  | [] => 0
  | x :: xs => (xs.foldl (fun b y => if y.2 < b.2 then y else b) x).1
/-- The load ends with a status: DISCARD ends, the S-core that still waits goes on, and the discarded tokens are metered (R185). -/
def Mod.loadEnd (m : Mod) (status : Nat) : Mod :=
  match m.icp.load with
  | none => m
  | some (n, _) =>
    let ts := nub ((namedSlides m.icp.frames).map (· / 8))
    let m1 := ts.foldl (fun m i => (m.tput i { m.t i with discard := [] }).restall i) m
    let m2 := (nub (ts.map tDie)).foldl (fun m d => m.sample 0x0E d none none (tget 0 m.icp.disc d)) m1
    let m3 := (m2.icpMap (fun i => { i with load := none, frames := [], depths := [], bytes := [] })).icpEnd n 0 status
    match (m3.s n).block with
    | .icp rd => m3.scReturn n rd status
    | _ => m3
/-- Quiescence of a region ends once a successful load has written all four frames of every slide it waits for (R360). -/
def Mod.endQuiet (m : Mod) (r : Nat) (fs : List Nat) : Mod :=
  match tget? m.icp.quiet r with
  | none => m
  | some ks =>
    if ks.all (fun k => (List.range 4).all (fun j => fs.any (fun f => !faProg f && 8 * faTile f + faSlide f == k && faFrame f == j))) then
      (allTiles.filter (inRegion (nth 0 m.img.regions r))).foldl (fun m i => m.carResume i) (m.icpMap (fun i => { i with quiet := tdel i.quiet r }))
    else m
/-- ICP_LOAD_DONE (R359, R360, R365). It waits while a die on the payload's way is in DEEP (R21). -/
def Mod.icpDone (m : Mod) : Mod :=
  match m.icp.load with
  | none => m
  | some (n, a) =>
    let fs := m.icp.frames
    let named := namedSlides fs
    let r := (m.regionOf n).getD 0
    let base := a + m.icp.bytes.length
    if !mapped base (1088 * fs.length) then m.unmappedFault (scTile n) base
    else if !m.awake (unitOf icpId) base (1088 * fs.length) then m.park icpId base (1088 * fs.length)
    else
      let p := m.payload base fs.zipIdx m.icp.bytes
      let m1 := p.1
      -- a fatal fault met on the way has ended the load
      if m1.icp.load.isNone then m1
      else if !p.2.2 then
        let old := tget [] m1.icp.quiet r
        ((m1.icpMap (fun i => { i with quiet := tset i.quiet r (nub (old ++ named)) })).loadEnd 0x0D05).raiseEv evCfg 2
      else
        let code := m1.slidesCode named m1.icp.depths
        if code ≠ 0 then m1.loadEnd code
        else
          let m2 := (nub (named.map (· / 8))).foldl (fun m i => m.tput i ((m.t i).activate (m.t i).cur)) (named.foldl (fun m k => m.setSlide k 2) m1)
          ((m2.measure p.2.1 false).endQuiet r fs).loadEnd 0
/-- ICP_LOAD_DONE (R359). -/
def execIcpLoadDone (s : State) : Host.Outcome State Fault Refusal := .next (s.on fun m => m.icpDone)

/-! Switches (R190, R191). -/

/-- The commit of a region is complete once no tile in scope still waits: ICP_COMMIT, the measurement, the waiting S-core (R191, R361,
R365). -/
def Mod.commitCheck (m : Mod) (r : Nat) : Mod :=
  match tget? m.icp.pend r with
  | none => m
  | some c =>
    if tget false m.icp.hold r || (allTiles.filter (inRegion (nth 0 m.img.regions r))).any (fun i => (m.t i).commit.isSome) then m
    else
      let m1 := (m.measure (tget [] m.icp.reqRec r) true).icpMap (fun i =>
        { i with lastC := c, pend := tdel i.pend r, reqRec := tdel i.reqRec r })
      (List.range 64).foldl (fun m n => match (m.s n).block with
        | .icpWait rd r' => if r' = r then (m.icpEnd n 1 0).scReturn n rd 0 else m
        | _ => m) m1
/-- TILE_SWITCH: a tile whose conditions hold switches to its staged program (R190). -/
def execTileSwitch (tile : Nat) (s : State) : Host.Outcome State Fault Refusal :=
  .next (s.live fun m =>
    let t := m.t tile
    if t.maySwitch tile ∧ !m.quietTile tile then
      let m1 := (m.tput tile (t.switch tile)).restall tile
      m1.icp.pend.foldl (fun m p => if inRegion (nth 0 m.img.regions p.1) tile then m.commitCheck p.1 else m) m1
    else m)
/-- At command end or warm reset the queues of the die set are emptied, and every tile of a region that reaches into it that is still
pending switches at once, a held commit included (R183, R191, R361). -/
def Mod.switchAll (m : Mod) (ds : List Nat) : Mod :=
  let mine (r : Nat) : Bool := allTiles.any (fun i => inRegion (nth 0 m.img.regions r) i && ds.contains (tDie i))
  let m1 := (m.icp.pend.filter (fun p => tget false m.icp.hold p.1 && mine p.1)).foldl (fun m p =>
    (m.icpMap (fun i => { i with hold := tdel i.hold p.1 })).deliver p.1 p.2) m
  let late (i : Nat) : Bool := m1.icp.pend.any (fun p => mine p.1 && inRegion (nth 0 m.img.regions p.1) i)
  let m2 := m1.tile.foldl (fun m p =>
    if ds.contains (tDie p.1) then m.changed p.1 (p.2.flush p.1)
    else if p.2.commit.isSome && late p.1 then m.changed p.1 (p.2.switchNow p.1) else m) m1
  m2.icp.pend.foldl (fun m p => m.commitCheck p.1) m2

end Sys2Proof.Machine
end

