-- ==== Sys2Proof/Machine/Memory.lean ====
section
/-! DEFINITION. Memory tiles: bank arbitration, updates, ECC write-back, scrubbing, gating (R21, R138 to R149, R407). -/

namespace Sys2Proof.Machine

/-- MEM_TILE_REQUEST: the bank serves one waiting request, unless its tile's clock is gated or its die is in DEEP (R21, R145). -/
def Mod.memRequest (m : Mod) (mt bank cycle : Nat) : Mod :=
  let i := mtTile mt
  let t := m.t i
  if 288 ≤ mt ∨ t.gated ∨ t.ungating ∨ m.sleeps (mt / 72) then m
  else match t.pick bank cycle with
    | none => m
    | some k =>
      match t.reqs[k]? with
      | none => m
      | some r => (m.tput i { t with reqs := ldel t.reqs k, rr := t.pass bank r }).serve mt r
/-- MEM_TILE_REQUEST: a window request that is complete with it is answered (R145, R309). -/
def execMemTileRequest (mt bank cycle : Nat) (s : State) : Host.Outcome State Fault Refusal := .next (s.on fun m => (m.memRequest mt bank cycle).sendAcks)
/-- The updates that wait at memory tiles, tile by tile. -/
def Mod.tileUpdates (m : Mod) : List LineReq := m.tile.flatMap (fun kv => kv.2.reqs.filter (fun r => r.upd.isSome))
/-- MEM_SIDE_UPDATE: update idx is applied at its target, those on their way to HBM and LPDDR-5X first and then those that wait at memory
tiles, each behind what stands ahead of it in its queue (R145, R149). -/
def execMemSideUpdate (idx : Nat) (s : State) : Host.Outcome State Fault Refusal :=
  .next (s.on fun m => match m.upd[idx]? with
    | some u => { m with upd := ldel m.upd idx }.applyUpd u
    | none => match m.tileUpdates[idx - m.upd.length]? with
      | some r => m.serveAll (fun _ x => x == r)
      | none => m)
/-- ECC_WRITE_BACK: a corrected line of the bank is written back; no value changes (R138). -/
def execEccWriteBack (mt bank : Nat) (s : State) : Host.Outcome State Fault Refusal :=
  .next (s.on fun m =>
    let t := m.t (mtTile mt)
    match t.wback.findIdx? (fun a => bankOf a == bank) with
    | some i => m.tput (mtTile mt) { t with wback := ldel t.wback i }
    | none => m)
/-- Span of a scrubbed memory: memory tiles 0 to 287, then HBM of CD[0..3], then LPDDR-5X of IOD[0..1]. -/
def scrubRange (u : Nat) : Nat × Nat :=
  if u < 288 then (mtBase u, 0x400000)
  else if u < 292 then ((u - 288) * 0x004800000000, 0x004800000000)
  else (0x020000000000 + (u - 292) * 0x018000000000, 0x018000000000)
/-- MEMORY_SCRUB: the scrub of a memory meets a pending error (R407, R415). Units from 1024 on stand for the other SRAM of a tile, an
M-core's cells, tanks, pool and chunk buffer or a tile's queues and link buffers, in which ECC corrects and counts a single-bit error
(R79, R157); units from 4096 on for an error of class c that is met on die d of itself, 4096 + 8 c + d, class 3 being the host link
(R405; log entry 82). -/
def execMemoryScrub (unit : Nat) (s : State) : Host.Outcome State Fault Refusal :=
  .next (s.on fun m =>
    if unit < 294 then m.readMark (scrubRange unit).1 (scrubRange unit).2
    else if 1024 ≤ unit ∧ kindOf (unit - 1024) ≠ .none then m.corrected 0 (tDie (unit - 1024))
    else if 4096 ≤ unit ∧ unit < 4128 ∧ unit % 8 < 6 then m.corrected ((unit - 4096) / 8) (unit % 8)
    else m)

/-- TILE_UNGATE_DONE: the 32 cycles have passed (R21). -/
def execTileUngateDone (mt : Nat) (s : State) : Host.Outcome State Fault Refusal :=
  .next (s.on fun m =>
    let t := m.t (mtTile mt)
    if t.ungating then m.tput (mtTile mt) { t with gated := false, ungating := false } else m)
/-- TILE_REGATE: an ungated tile of a die in NAP that has served no request for 64 cycles gates again, unless its slot table
reserves an entry (R21, R147). -/
def execTileRegate (mt : Nat) (s : State) : Host.Outcome State Fault Refusal :=
  .next (s.on fun m =>
    let t := m.t (mtTile mt)
    if mt < 288 && (m.die (mt / 72)).st == 1 && !t.gated && t.reqs.isEmpty && !t.reservesAny then m.tput (mtTile mt) { t with gated := true } else m)
/-- Gate the memory tiles of a die that enters NAP (Table 1.9, R147). -/
def Mod.gateDie (m : Mod) (d : Nat) : Mod :=
  (List.range 72).foldl (fun m j =>
    let i := mtTile (72 * d + j)
    let t := m.t i
    if t.reservesAny then m else m.tput i { t with gated := true, ungating := !t.reqs.isEmpty }) m
/-- Ungate them on entry to RUN. -/
def Mod.ungateDie (m : Mod) (d : Nat) : Mod :=
  { m with tile := m.tile.map (fun p => if tDie p.1 = d then (p.1, { p.2 with gated := false, ungating := false }) else p) }

end Sys2Proof.Machine
end

