-- ==== Sys2Proof/Machine/Power.lean ====
section
/-! DEFINITION. Power states of the dies: idling, entries, and the raise to NAP (R18 to R21). -/

namespace Sys2Proof.Machine

/-- Floor of a die in SAFE_SLEEP_CTRL: 0 free, 1 never DEEP, 2 never below RUN (Table 14.6). -/
def Mod.floorOf (m : Mod) (d : Nat) : Nat := Nat.min 2 (fld (m.rg 0x100010) (2 * d + 1) (2 * d))
/-- A command is dispatched to the die: its start checks have passed and its completion word is not yet written (R19). -/
def Mod.dispatchedTo (m : Mod) (d : Nat) : Bool :=
  m.safe.ctx.any (fun p => match p.2.run with | some r => r.raised && decide (d < 4) && bitAt r.cr (64 + d) | none => false)
/-- The way of an access by a requester to an address leads over a die. -/
def crosses (u a d : Nat) : Bool := match (targetOf a).die with | some v => (pathDies (unitOf u) v).contains d | none => false
/-- A die lies on the way of a window request from the I/O die that received it to its target and back to a port of the other I/O die (R14,
R19, R305). -/
def RxReq.onWay (r : RxReq) (d : Nat) : Bool :=
  r.io == d || (spanDies r.addr r.len).any (fun v => (pathDies r.io v).contains d)
/-- A waiting reply of an accepted request has the die on its way, that of the flit to its port included (R19, R305). -/
def Mod.replyOn (m : Mod) (r : RxReq) (d : Nat) : Bool :=
  m.replyWaits r && (r.onWay d || m.ers.port.any (fun p => p.2.txq.any (fun q =>
    q.2.dst == r.src && q.2.txn == r.txn && (portDie p.1 == d || (wayDies r.io p.1 q.2).contains d))))
/-- An access in flight targets the die's memory or crosses the die: of the host, of an engine, or of a remote module until its reply has left
(R19; log entry 81). -/
def Mod.trafficTo (m : Mod) (d : Nat) : Bool :=
  m.tile.any (fun kv => kv.2.reqs.any (fun r => crosses r.core r.addr d)) || m.upd.any (fun u => crosses u.core u.addr d)
  || m.far.any (fun r => crosses r.core r.addr d) || m.parked.any (fun p => crosses p.1 p.2 d)
  || m.ers.replies.any (fun r => m.replyOn r d) || m.ers.crossing.any (fun x => x.1 == d || (4 ≤ x.1 && (crossDies x.2.2.vl).contains d))
  || m.sleepers.any (fun p => p.space == .dev && (spanDies p.addr p.len).any (fun v => (pathDies 4 v).contains d)) || m.ers.rx.any (fun r => r.io == d)
  || (m.ers.asleep ++ m.ers.acks).any (fun r => r.onWay d)
/-- A range of some bytes reaches a die's memory. -/
def spans (a n d : Nat) : Bool := n != 0 && (spanDies a n).contains d
/-- A posted collective has its SRC, DST or Groomer target on the die, or the die's Groomer is active (R19). A Groomer's own collective has
no SRC and no DST. -/
def Mod.workOn (m : Mod) (d : Nat) : Bool :=
  [0, 1].any (fun x => (m.colls x).any (fun c =>
    let n := (m.members (cGroup c.raw)).length
    let i := m.rankIn (cGroup c.raw)
    c.space == 0 && (spans (cSrc c.raw) (cInLen c.raw n i) d || spans (cDst c.raw) (outBytes c.raw n i) d || (cKind c.raw == 1 && cDie c.raw == d))))
  || (let g := m.g d; decide (d < 4) && !(g.inq.isEmpty && g.win.isEmpty && g.stage.isEmpty && g.mats.all (fun e => e.phase != 3)))
/-- The three conditions of R19 hold for the die. -/
def Mod.idle (m : Mod) (d : Nat) : Bool := !m.dispatchedTo d && !m.trafficTo d && !m.workOn d
/-- An open inbound window targets the scratchpad of the die (R19). -/
def Mod.winOnSp (m : Mod) (d : Nat) : Bool :=
  m.ers.win.any (fun w => bitAt w.2 128 && decide (spBase ≤ fld w.2 47 0) && spans (fld w.2 47 0) (32 * (fld w.2 72 48 + 1)) d)
/-- The die stands still in a state. -/
def Die.rests (x : Die) (st : Nat) : Bool := x.st == st && x.entering.isNone && x.waking.isNone
/-- Enter a lower state. -/
def Mod.lower (m : Mod) (d st : Nat) : Mod := m.dput d { m.die d with entering := some st }
/-- IDLE_NAP_EXPIRE: the conditions have held for SAFE_IDLE_NAP (R19). -/
def execIdleNapExpire (die : Nat) (s : State) : Host.Outcome State Fault Refusal :=
  .next (s.on fun m =>
    if die < 6 && (m.die die).rests 2 && m.idle die then
      m.using [0x100008, 0x100010] (fun m => if m.floorOf die < 2 then m.lower die 1 else m)
    else m)
/-- IDLE_DEEP_EXPIRE: the conditions have held for SAFE_IDLE_DEEP and no open window targets the die's scratchpad (R19). -/
def execIdleDeepExpire (die : Nat) (s : State) : Host.Outcome State Fault Refusal :=
  .next (s.on fun m =>
    if die < 6 && (m.die die).rests 1 && m.idle die && !m.winOnSp die then
      m.using [0x10000C, 0x100010] (fun m => if m.floorOf die = 0 then m.lower die 0 else m)
    else m)
/-- A held wake request starts at once (R20). -/
def Mod.heldWake (m : Mod) (d : Nat) : Mod :=
  match (m.die d).held with
  | some k => (m.dput d { m.die d with held := none }).wakeTo d k
  | none => m
/-- NAP_ENTRY_DONE: the die is in NAP; memory tiles gate; a held wake starts (R19, R20, Table 1.9). -/
def execNapEntryDone (die : Nat) (s : State) : Host.Outcome State Fault Refusal :=
  .next (s.on fun m =>
    if die < 6 ∧ (m.die die).entering = some 1 then
      let m1 := m.dput die { m.die die with st := 1, entering := none }
      (if die < 4 then m1.gateDie die else m1).heldWake die
    else m)
/-- What a compute die loses in DEEP: scratchpad, stream queues, semaphores, engine state (Table 1.9). -/
def Mod.loseDie (m : Mod) (d : Nat) : Mod :=
  let m1 := m.zero (mtBase (72 * d)) (72 * 0x400000)
  let lose (t : Tile) : Tile := { t.halt with queues := [], fired := [], sem := [], satHi := 0, satLo := 0, stall := false, wback := [] }
  { m1 with tile := m1.tile.map (fun p => if tDie p.1 = d then (p.1, lose p.2) else p) }
/-- DEEP_ENTRY_DONE: the die is in DEEP; links of an I/O die are asleep and its collective engine has lost what it held (Table 1.9); a held
wake starts (R19, R20, R298). -/
def execDeepEntryDone (die : Nat) (s : State) : Host.Outcome State Fault Refusal :=
  .next (s.on fun m =>
    if die < 6 ∧ (m.die die).entering = some 0 then
      let m1 := m.dput die { m.die die with st := 0, entering := none }
      let m2 := if die < 4 then m1.loseDie die
        else { m1 with ers := { m1.ers with
          port := m1.ers.port.map (fun p => if portDie p.1 = die ∧ p.2.st = 2 then (p.1, { p.2 with st := 3 }) else p),
          coll := tset m1.ers.coll (die - 4) ((m1.colls (die - 4)).filter (fun c => c.idle)),
          ready := m1.ers.ready.filter (fun r => r.eng != die - 4) } }
      let m3 := m2.heldWake die
      if 4 ≤ die ∧ m3.ers.port.any (fun p => portDie p.1 = die ∧ !p.2.txq.isEmpty) then m3.wakeTo die 1 else m3
    else m)
/-- Zero every memory tile of a die; no watcher is notified (R139). -/
def Mod.zeroTiles (m : Mod) (d : Nat) : Mod := m.zero (mtBase (72 * d)) (72 * 0x400000)
/-- The die has left DEEP: its tiles are zeroed and gated (R20, R139, Table 1.9). -/
def Mod.leaveDeep (m : Mod) (d : Nat) : Mod :=
  let x := m.die d
  let m1 := m.dput d { x with st := 1, waking := match x.waking with | some k => if 2 ≤ k then some 2 else none | none => none }
  if d < 4 then (m1.zeroTiles d).gateDie d else m1
/-- Raise every die that is in DEEP, the first step of a command's wake (R20). -/
def Mod.raiseAll (m : Mod) : Mod :=
  (List.range 6).foldl (fun m d => if (m.die d).st = 0 ∨ (m.die d).entering = some 0 then m.wakeTo d 1 else m) m
/-- The safelight on IOD[0] can reach an address: no die of the path is in DEEP. -/
def Mod.safeReach (m : Mod) (a : Nat) : Bool := m.pathAwake 4 a

end Sys2Proof.Machine
end

