-- ==== Sys2Proof/Machine/StartChecks.lean ====
section
/-! DEFINITION. The start checks of a command: reach tables and the checks across descriptors (R222 to R227, R232). -/

namespace Sys2Proof.Machine

/-- A failing check: code and address of the object; none when the check passes. -/
abbrev Bad := Option (Nat × Nat)
/-- The first failure of a list of checks. -/
def firstBad : List Bad → Bad
  | [] => none
  | some b :: _ => some b
  | none :: l => firstBad l
/-- A condition that fails with a code at an object. -/
def badIf (b : Bool) (code a : Nat) : Bad := if b then some (code, a) else none

/-- The object of a descriptor's failing code: a pattern record for the codes of pattern records, the chain record for the chain's
own codes, else the descriptor (Table 9.3, R223). -/
def descObject (c : Chk) (x a code : Nat) : Nat :=
  if 0x0601 ≤ code ∧ code ≤ 0x0604 then
    (if tSm x = 1 ∧ patErr c (tSrc x) false (tLen x) ≠ 0 then tSrc x else tDst x)
  else if 0x040C ≤ code ∧ code ≤ 0x040F then
    let xr := c.rd (homeAddr c.core 0 (fld x 236 215)) 64
    if dExport x ∨ chainErr (c.rd (fld xr 175 128) 128) (dFmt x) ≠ code then a else fld xr 175 128
  else a
/-- One descriptor of a list with the records it names, a replay list among them (R223). -/
def descBad (c : Chk) (a : Nat) : Bad :=
  let x := c.rd a 32
  let e := descErr c x
  if e ≠ 0 then some (e, descObject c x a e)
  else if hKind x = 0x22 then
    let xr := c.rd (homeAddr c.core 0 (fld x 236 215)) 64
    match replayErr c (fld xr 303 256) (fld xr 311 304) with
    | some (ra, code) => some (code, descObject { c with q := 0 } (c.rd ra 32) ra code)
    | none => none
  else none

/-! Reach tables (Table 9.1). -/
def reLIST (x : Nat) : Nat := fld x 47 0
def reCOUNT (x : Nat) : Nat := fld x 63 48
def reTILE (x : Nat) : Nat := fld x 73 64
def reQUEUE (x : Nat) : Nat := fld x 81 80

/-- The regions of the S-cores that the record names contain a tile. -/
def Mod.inScRegion (m : Mod) (cr t : Nat) : Bool :=
  (crScList cr).any (fun n => match m.regionOf n with | some r => inRegion (nth 0 m.img.regions r) t | none => false)
/-- One entry of a reach table (R225 step 3, R232). -/
def Mod.entryBad (m : Mod) (cr a : Nat) : Bad :=
  let x := m.rdn a 16
  firstBad [badIf (fld x 79 74 != 0 || fld x 87 82 != 0 || fld x 127 88 != 0 || reCOUNT x == 0) 0x0201 a,
    badIf (reLIST x % 32 != 0 || !mapped (reLIST x) (32 * reCOUNT x)) 0x0203 a,
    badIf (!bitAt (crDies cr) (tDie (reTILE x)) || !m.inScRegion cr (reTILE x) || !hasQueue (reTILE x) (reQUEUE x)) 0x0202 a]
/-- Entries of a reach table. -/
def Mod.reachEntries (m : Mod) (a : Nat) : List Nat := (List.range (fld (m.rdn a 64) 79 64)).map (fun i => a + 64 + 16 * i)
/-- Header, placement and entries (R225 steps 2 and 3, R232). -/
def Mod.reachBad (m : Mod) (cr : Nat) : Bad :=
  let a := crReach cr
  if a % 64 ≠ 0 ∨ !mapped a 64 then some (0x0201, a)
  else
    let h := m.rdn a 64
    let n := fld h 79 64
    if n = 0 ∨ 4096 < n ∨ fld h 511 80 ≠ 0 ∨ !mapped a (64 + 16 * n) then some (0x0201, a)
    else firstBad ((m.reachEntries a).map (m.entryBad cr))
/-- Descriptors of the lists in table order (R225 step 4). -/
def Mod.listsBad (m : Mod) (cr : Nat) : Bad :=
  firstBad ((m.reachEntries (crReach cr)).flatMap (fun ea =>
    let x := m.rdn ea 16
    (List.range (reCOUNT x)).map (fun i => descBad (m.chk (reTILE x) (reQUEUE x)) (reLIST x + 32 * i))))

/-! Checks across descriptors (R227). -/

/-- Descriptor addresses of a tile's queue, in reach-table order, of one kind. -/
def Mod.queueDescs (m : Mod) (cr t q kind : Nat) : List Nat :=
  (m.reachEntries (crReach cr)).flatMap (fun ea =>
    let x := m.rdn ea 16
    if reTILE x = t ∧ reQUEUE x = q then
      ((List.range (reCOUNT x)).map (fun i => reLIST x + 32 * i)).filter (fun a => hKind (m.rdn a 32) == kind)
    else [])
/-- Cut a sequence of segments into blocks: a FIRST opens a block, also where one stands open, and a LAST closes it. -/
def cutBlocks (first last : Nat → Bool) : List Nat → List Nat → List (List Nat)
  | [], cur => if cur.isEmpty then [] else [cur]
  | a :: as, cur =>
    if first a && !cur.isEmpty then cur :: (if last a then [a] :: cutBlocks first last as [] else cutBlocks first last as [a])
    else if last a then (cur ++ [a]) :: cutBlocks first last as []
    else cutBlocks first last as (cur ++ [a])
/-- The first segment that breaks FIRST and LAST. -/
def orderBad (first last : Nat → Bool) : List Nat → Bool → Option Nat
  | [], _ => none
  | a :: as, op => if first a == op then some a else orderBad first last as (!last a)
/-- The checks over one tile. -/
def Mod.crossBad (m : Mod) (cr t : Nat) : Bad :=
  let d (a : Nat) : Nat := m.rdn a 32
  let segs := m.queueDescs cr t 1 0x21
  let drains := m.queueDescs cr t 2 0x22
  let first (a : Nat) : Bool := mFirst (d a)
  let last (a : Nat) : Bool := mLast (d a)
  let cut := cutBlocks first last segs []
  let blocks := cut.filter (fun b => b.any last)
  let c := m.chk t 2
  let xr (a : Nat) : Nat := m.rdn (homeAddr t 0 (fld (d a) 236 215)) 64
  let head (b : List Nat) : Nat := nth 0 b 0
  let shape (a : Nat) : Nat × Nat × Nat × Nat := (mA (d a), mB (d a), mRows (d a), mCols (d a))
  let pairs := blocks.zip drains
  firstBad ([
    (if drains.length < blocks.length then ((nth [] blocks drains.length).find? last).map (fun a => (0x0206, a))
     else (drains[blocks.length]?).map (fun a => (0x0206, a))),
    ((cut.getLast?).bind (fun b => if b.any last || !first (head b) then none else some (0x0207, head b))),
    ((orderBad first last segs false).map (fun a => (0x0208, a))),
    ((cut.findSome? (fun b => b.find? (fun a => shape a != shape (head b)))).map (fun a => (0x0209, a))),
    ((pairs.findSome? (fun p => if fld (xr p.2) 311 304 = 0 then p.1.find? (fun a => !mHold (d a)) else none)).map (fun a => (0x020A, a)))] ++
    pairs.map (fun p =>
      let e := blockErr c (d p.2) (mA (d (head p.1))) (mB (d (head p.1))) ((p.1.map (fun a => mK (d a))).sum) (mCols (d (head p.1)))
      badIf (e != 0) e p.2))
/-- Tiles of the reach table, in the order in which they first appear. -/
def Mod.reachTiles (m : Mod) (cr : Nat) : List Nat :=
  ((m.reachEntries (crReach cr)).map (fun ea => reTILE (m.rdn ea 16))).foldl (fun l t => if l.contains t then l else l ++ [t]) []

/-- The start checks in the order of R225; a kept result spares the list checks (R224). ra is the record's address. -/
def Mod.startBad (m : Mod) (cr ra : Nat) : Bad :=
  firstBad [badIf (crDies cr == 0 || (crScList cr).any (fun n => !bitAt (crDies cr) (n / 16))) 0x0204 ra,
    badIf (crEntry cr % 4 != 0 || decide (0x2FFFF < crEntry cr)) 0x0205 ra,
    m.reachBad cr,
    if m.safe.kept.contains (crReach cr, m.rdn (crReach cr) 8) then none
    else firstBad [m.listsBad cr, firstBad ((m.reachTiles cr).map (m.crossBad cr))]]
/-- Keep a passed result, at most 256, the least recently used out first (R224). -/
def Mod.keepResult (m : Mod) (cr : Nat) : Mod :=
  let k := (crReach cr, m.rdn (crReach cr) 8)
  { m with safe := { m.safe with kept := (k :: m.safe.kept.filter (fun x => x != k)).take 256 } }

end Sys2Proof.Machine
end

