-- ==== Sys2Proof/Machine/Safelight.lean ====
section
/-! DEFINITION. The safelight: the work bitmap, context entries, command records, the walk, start, outcome, resolution and accounting
(R22 to R25, R222, R244 to R261). -/

namespace Sys2Proof.Machine

def Mod.safeMap (m : Mod) (f : Safe → Safe) : Mod := { m with safe := f m.safe }
def Mod.cxMap (m : Mod) (c : Nat) (f : Ctx → Ctx) : Mod := m.cxput c (f (m.cx c))
/-- A write of the safelight; none after a fatal fault (R252); an address outside Table 1.7 is one (R16). In scratchpad it takes its turn at
its bank. -/
def Mod.safeWr (m : Mod) (a : Nat) (bs : List Byte) : Mod :=
  if m.mon.fltState ≠ 0 then m
  else (m.issue safeId 4 0 noCtx a bs).drain (fun u _ _ => u == safeId)
/-- The safelight reads device memory, through the checks that every read passes: an error mark, an unmapped address (R16, R404, R415). The
bytes stand in memory after it. -/
def Mod.safeRead (m : Mod) (a n : Nat) : Mod := (m.fetch safeId noCtx a n).2
/-- Address of a context entry (R244). -/
def Mod.ctxAddr (m : Mod) (c : Nat) : Nat := m.img.ctxTable + 64 * c
/-- MSI-X message of a context (R380). -/
def Mod.ctxMsix (m : Mod) (c : Nat) : Mod :=
  m.msix (tenOf c) (if tenOf c = 0 then (m.cx c).msix % 2048 else (m.cx c).msix % 32)

/-! The work bitmap (R24, R244, R249). -/

/-- Byte i of the mirror. -/
def mirrorByte (l : List Nat) (i : Nat) : Byte :=
  BitVec.ofNat 8 (((List.range 8).map (fun k => if l.contains (8 * i + k) then 2 ^ k else 0)).sum)
/-- Write one byte of the mirror through to HBM. -/
def Mod.mirrorOut (m : Mod) (i : Nat) : Mod := m.wr (m.img.bitmap + i) [mirrorByte m.safe.mirror i]
/-- Set a bit of the mirror. -/
def Mod.setBit (m : Mod) (c : Nat) : Mod := (m.safeMap (fun s => { s with mirror := linsert c s.mirror })).mirrorOut (c / 8)
/-- Clear a bit of the mirror. -/
def Mod.clearBit (m : Mod) (c : Nat) : Mod := (m.safeMap (fun s => { s with mirror := s.mirror.filter (fun k => k != c) })).mirrorOut (c / 8)
/-- A host write into the bitmap sets the bits written as one, within the slice of a VF (R24, R244). -/
def Mod.bitmapWrite (m : Mod) (fn off : Nat) (data : List Byte) : Mod :=
  let cs := (bitsOf (8 * data.length) (leNat data)).map (fun k => 8 * off + k)
  (cs.filter (fun c => decide (c < 65536) && (fn == 0 || tenOf c == fn))).foldl (fun m c => m.setBit c) m
/-- Bytes of the mirror as a host read returns them. -/
def Mod.bitmapRead (m : Mod) (off n : Nat) : List Byte := (List.range n).map (fun i => mirrorByte m.safe.mirror (off + i))

/-! Resolution and accounting (R25, R253, R257 to R261). -/

/-- Words of an accounting record, and its bytes. -/
def acctWord (bs : List Byte) (i : Nat) : Nat := leNat ((bs.drop (8 * i)).take 8)
/-- BUSY counters of a launched command: values that the model leaves free (R259). -/
def Mod.busyDraw (m : Mod) : List Nat × Mod :=
  (List.range 5).foldl (fun p _ => let q := p.2.draw; (p.1 ++ [q.1 % 2 ^ 64], q.2)) ([], m)
/-- Completion word (Table 10.9). -/
def doneWord (j outcome reason : Nat) : Nat := j % 2 ^ 32 + outcome * 2 ^ 32 + reason * 2 ^ 48
/-- RUN_TIME of a command in CCLK cycles (R258). -/
def Run.runTime (r : Run) : Nat := if r.launched then 50 * (r.tFix - r.tLaunch) else 0
/-- The accounting record after a resolution (Table 10.12). -/
def acctNew (old : List Byte) (word detail outcome run queue : Nat) (cnt : List Nat) (energy : List Nat) (cr : Nat) : List Byte :=
  let o (i : Nat) : Nat := acctWord old i
  let add (i v : Nat) : Nat := satAdd 64 (o i) v
  let e := (((cnt.zip energy).map (fun p => p.1 * p.2)).sum) / 1000000
  let cal := o (24 + crSlot cr) % 2 ^ 48
  let slow := decide (outcome = 1) && crCalUse cr && cal != 0
  let sd := if slow then 1024 * run / cal else 0
  let cals := (List.range 8).map (fun k =>
    if outcome = 1 ∧ crCal cr ∧ k = crSlot cr then run % 2 ^ 48 else o (24 + k) % 2 ^ 48)
  ([add 0 (if outcome = 1 then 1 else 0), add 1 (if outcome = 2 then 1 else 0), o 2, word, detail % 2 ^ 64, add 5 run, add 6 queue]
    ++ (List.range 11).map (fun k => add (7 + k) (nth 0 cnt k))
    ++ [add 18 e, if slow then sd % 2 ^ 64 else o 19, if slow then add 20 sd else o 20, if slow then add 21 1 else o 21, 0, 0] ++ cals).flatMap (natLE 8)
/-- A context's entry is wrong: STATE 3, CTX_ERR, the vector, CTX_ERROR (R245, R390). -/
def Mod.ctxError (m : Mod) (c err : Nat) : Mod :=
  let m1 := ((m.safeWr (m.ctxAddr c) [3, BitVec.ofNat 8 err]).cxMap c (fun x =>
    { x with state := 3, ready := x.ready && x.run.isSome, next := none })).safeMap (fun s => { s with recs := s.recs.filter (fun k => k != c) })
  ((m1.ctxMsix c).rput 0x200208 c).raiseEv evCtx 1
/-- More commands than the ring holds (R245). -/
def Ctx.overrun (x : Ctx) : Bool := decide (2 ^ x.ringLog < (x.producer + 2 ^ 32 - x.consumer) % 2 ^ 32)
/-- A context with nothing in hand goes on to its next command, when it is READY and on the list, or when that command is marked for abort,
which a PAUSED or ERROR context handles too: the read of its record starts (R249, R255, Table 10.7). A poll's walk waits for it, and for a
read that an earlier resolution began (R250). -/
def Mod.prepare (m : Mod) (c : Nat) (poll : Bool) : Mod :=
  let x := m.cx c
  let go := (x.ready && x.state == 1) || (x.state != 0 && m.safe.lru.contains c && x.marks.contains x.consumer)
  if go && x.run.isNone && x.next.isNone && x.producer != x.consumer then
    (m.cxput c { x with next := some x.consumer, nextSt := 0, nextNo := m.safe.found }).safeMap (fun s =>
      { s with found := s.found + 1, recs := if poll then s.recs ++ [c] else s.recs })
  else if poll && x.next.isSome && x.nextSt == 0 && x.run.isNone && !m.safe.recs.contains c then m.safeMap (fun s => { s with recs := s.recs ++ [c] })
  else m
/-- After a resolution the safelight reads STATE to PRODUCER of the entry again (R249). -/
def Mod.again (m : Mod) (c : Nat) : Mod :=
  if !(m.cx c).ready then m.prepare c false
  else
    let m := m.safeRead (m.ctxAddr c) 8
    if m.mon.fltState ≠ 0 then m else
    let e := m.rdn (m.ctxAddr c) 8
    let st := fld e 7 0
    let m1 := m.cxMap c (fun x => { x with state := st, prio := fld e 18 16, ringLog := fld e 31 24, producer := fld e 63 32, nextAt := m.time })
    let x := m1.cx c
    if st = 1 ∨ st = 2 then
      if fld e 23 19 ≠ 0 ∨ x.ringLog < 4 ∨ 16 < x.ringLog then m1.ctxError c 1
      else if x.overrun then m1.ctxError c 2
      else if x.producer = x.consumer then m1.cxput c { x with ready := false }
      else m1.prepare c false
    else (m1.cxput c { x with ready := false, next := none }).prepare c false
/-- The writes of R25 for command j: consumer index, accounting record, completion word. -/
def Mod.writeOut (m : Mod) (c j outcome reason detail cr : Nat) (r : Option Run) : Mod :=
  let x := m.cx c
  let word := doneWord j outcome reason
  let m1 := m.safeWr (m.ctxAddr c + 24) (natLE 4 (j + 1))
  let launched := match r with | some r => r.launched | none => false
  let b0 := if launched then m1.busyDraw else ([0, 0, 0, 0, 0], m1)
  let b := (b0.1, b0.2.safeRead x.acct 256)
  let cnt := b.1 ++ (List.range 6).map (fun i => match r with | some r => tget 0 r.cnt (5 + i) | none => 0)
  let run := match r with | some r => r.runTime | none => 0
  let queue := match r with | some r => 50 * (r.tDisp - r.tNext) | none => 0
  let old := b.2.rd x.acct 256
  let cal := acctWord old (24 + crSlot cr) % 2 ^ 48
  let m2 := b.2.safeWr x.acct (acctNew old word detail outcome run queue cnt m.img.energy cr)
  let m3 := if outcome = 1 ∧ crCalUse cr ∧ cal ≠ 0 then m2.sample 0x13 4 none (some c) (1024 * run / cal) else m2
  m3.safeWr (m.ctxAddr c + 16) (natLE 8 word)

/-! Work of a command ends (R132, R183, R191, R234, R256, R271, R321). -/

/-- A core that a command used: one of its die set, or one outside it on which a list was launched (R126, R132). -/
def Run.used (r : Run) (t : Nat) : Bool := isCore t && ((crDieList r.cr).contains (tDie t) || r.outside.contains t)
/-- Dies of the cores that a command used. -/
def Run.usedDies (r : Run) : List Nat := [0, 1, 2, 3].filter (fun d => (crDieList r.cr).contains d || r.outside.any (fun t => tDie t == d))
/-- Cores of a die that a command used, with a saturation flag. -/
def Mod.satCores (m : Mod) (r : Run) (d : Nat) : Nat :=
  ((m.tile.filter (fun p => tDie p.1 == d && r.used p.1 && (p.2.satHi != 0 || p.2.satLo != 0))).length)
/-- Tokens in the queues of a die. -/
def Mod.tokensOn (m : Mod) (d : Nat) : Nat := ((m.tile.filter (fun p => tDie p.1 == d)).map (fun p => (p.2.queues.map (fun q => q.2.length)).sum)).sum
/-- The matrix engine of a tile works for a command. -/
def Tile.worksFor (t : Tile) (c : Nat) : Bool := [t.mc.blk, t.mc.nxt, t.mc.prev].any (fun b => match b with | some b => b.ctx == c | none => false)
/-- A tile outside the die set drops what a command's lists have left there (R256 step 2). -/
def Tile.dropCtx (t : Tile) (c : Nat) : Tile :=
  let blocked (w : SemWait) : Bool := decide (2 ≤ w.eng) && (tget {} t.eng (w.eng - 2)).buf.any (fun d => d.ctx == c && d.wait == 1)
  { t with waits := t.waits.filter (fun w => !blocked w), mc := if t.worksFor c then {} else t.mc,
           eng := t.eng.map (fun p => (p.1, { p.2 with lists := p.2.lists.filter (fun l => l.ctx != c), buf := p.2.buf.filter (fun d => d.ctx != c) })) }
/-- S-cores and engines of a command stop, on every die that a list of it was launched on (R256 steps 1 to 3). -/
def Mod.stopWork (m : Mod) (r : Run) : Mod :=
  if !r.launched then m
  else
    let ns := crScList r.cr
    let ds := crDieList r.cr
    let c := (ns.head?.map (fun n => (m.s n).ctx)).getD noCtx
    let m0 := ns.foldl (fun m n => m.sput n { m.s n with running := false, block := .none, loads := [] }) m
    let m1 := m0.tile.foldl (fun m p => if ds.contains (tDie p.1) || p.2.worksFor c then m.abandonWide p.1 else m) m0
    let m2 : Mod := { m1 with tile := m1.tile.map (fun p => (p.1, if ds.contains (tDie p.1) then p.2.halt else p.2.dropCtx c)),
                              parked := m1.parked.filter (fun p => !(decide (p.1 < 1024) && ds.contains (tDie p.1))) }
    match m2.icp.holder with
    | some n => if ns.contains n then m2.icpMap (fun i => { i with breakOf := some n }) else m2
    | none => m2
/-- Every access a command has issued completes at module scope, but for those that wait for a die (R256 step 4). -/
def Mod.drainCtx (m : Mod) (c : Nat) : Mod := m.drain (fun _ _ k => k == c)
/-- The work of a command ends: queues are emptied, pending tiles switch, flags are read, collectives are abandoned, the Groomers end the
command, and what all this has written is on its way to completion (R132, R183, R191, R256, R271, R321). -/
def Mod.quiesce (m : Mod) (c : Nat) (r : Run) : Mod :=
  let ds := crDieList r.cr
  let m1 := (m.stopWork r).drainCtx c
  if r.launched then
    let a0 := ds.foldl (fun m d => m.sample 0x0D d none (some c) (m.tokensOn d)) m1
    let a := r.usedDies.foldl (fun m d => m.sample 0x0F d none (some c) (m.satCores r d)) a0
    let b : Mod := { a with tile := a.tile.map (fun p => if r.used p.1 then (p.1, { p.2 with satHi := 0, satLo := 0 }) else p) }
    let e := b.switchAll ds
    let f := e.abandonAll (([0, 1].map (fun x => (e.colls x).length)).sum) c
    (([0, 1, 2, 3].filter (fun d => (f.g d).ctx == some c)).foldl (fun m d => m.gFinish d) f).drainCtx c
  else m1
/-- A command gives back its channels and its dies, and nothing of it is left on its way (R234, R250). -/
def Mod.giveBack (m : Mod) (c : Nat) (r : Run) : Mod :=
  let ds := crDieList r.cr
  let dead := m.chan.filter (fun p => p.1 / 16384 == c)
  { m with
    chan := m.chan.filter (fun p => !dead.any (fun q => q.1 == p.1)), chanFree := m.chanFree + nChan r.cr,
    msgs := m.msgs.filter (fun g => g.ctx != c),
    ers := { m.ers with txns := m.ers.txns.filter (fun x => x.ctx != c) },
    safe := { m.safe with events := m.safe.events.filter (fun e => e.ctx != c),
                          reports := m.safe.reports.filter (fun n => !(crScList r.cr).contains n || (m.s n).ctx != c),
                          checks := m.safe.checks.filter (fun k => k != c) },
    dies := m.dies.zipIdx.map (fun p =>
      if p.1.ctx = some c then
        { p.1 with ctx := none, tenancy := if r.raised && ds.contains p.2 then some r.tenancy else p.1.tenancy }
      else p.1) }
/-- The end of a command's work, unless it has ended before its resolution. -/
def Mod.endWork (m : Mod) (c : Nat) (r : Run) : Mod := (if r.ended then m else m.quiesce c r).giveBack c r

/-! The walk (R250). -/

/-- Dies a candidate needs: all four for a calibration run (R261). -/
def needs (cr : Nat) : List Nat := if crCal cr then [0, 1, 2, 3] else crDieList cr
/-- Effective priority (R250). -/
def Mod.effPrio (m : Mod) (c : Nat) : Nat := Nat.min (m.cx c).prio (m.rg (0x200100 + 4 * tenOf c))
/-- Candidates in the order of the walk. -/
def Mod.candidates (m : Mod) : List Nat :=
  let cs := (m.safe.ctx.filter (fun p => p.2.ready && p.2.state == 1 && p.2.run.isNone && p.2.next.isSome && p.2.nextSt == 1)).map (fun p => p.1)
  let key (c : Nat) : Nat × Nat × Nat := (7 - m.effPrio c, (m.cx c).nextAt, c)
  sortBy (fun a b => let x := key a; let y := key b
    decide (x.1 < y.1) || (x.1 == y.1 && (decide (x.2.1 < y.2.1) || (x.2.1 == y.2.1 && decide (x.2.2 < y.2.2))))) cs
/-- A command is dispatched: its dies and channels are taken, its completion word says RUNNING, its start checks wait behind those of every
command found before it (R222, R253). -/
def Mod.dispatch (m : Mod) (c : Nat) : Mod :=
  let x := m.cx c
  let j := x.next.getD 0
  let r : Run := { j := j, cr := x.nextRec, tenancy := tenOf c, phase := 0, tNext := x.nextAt, tDisp := m.time }
  let m1 := m.cxput c { x with run := some r, next := none }
  let m2 := (needs r.cr).foldl (fun m d => m.dput d { m.die d with ctx := some c }) m1
  ({ m2 with chanFree := m2.chanFree - nChan r.cr }.safeMap (fun s =>
      { s with checks := sortBy (fun a b => decide ((m.cx a).nextNo < (m.cx b).nextNo)) (s.checks ++ [c]) })).safeWr
    (m.ctxAddr c + 16) (natLE 8 (doneWord j 0 0))
/-- One candidate of the walk: it starts when its dies are idle and its channels free, or reserves what it needs. -/
def Mod.offer (p : Mod × List Nat × Nat) (c : Nat) : Mod × List Nat × Nat :=
  let m := p.1
  let cr := (m.cx c).nextRec
  let ds := needs cr
  let alone := !crCal cr || m.safe.ctx.all (fun q => q.2.run.isNone)
  if ds.all (fun d => (m.die d).ctx.isNone && !p.2.1.contains d) && decide (nChan cr + p.2.2 ≤ m.chanFree) && alone then (m.dispatch c, p.2.1, p.2.2)
  else (m, p.2.1 ++ ds, p.2.2 + nChan cr)
/-- The walk over all candidates; nothing is dispatched after a fatal fault (R252). -/
def Mod.walk (m : Mod) : Mod :=
  if m.mon.fltState ≠ 0 ∨ !m.ld.started then m
  else m.using (m.safe.ctx.map (fun p => 0x200100 + 4 * tenOf p.1)) fun m => (m.candidates.foldl Mod.offer (m, [], 0)).1
/-- The walk of a poll runs once the entries and records it took are read (R250). -/
def Mod.pollWalk (m : Mod) : Mod := if m.safe.reads.isEmpty && m.safe.recs.isEmpty then m.walk else m

/-- Resolve command j of a context: the writes of R25, the dies go to the next walk, PRODUCER is read again, MSI-X is sent. A fatal fault
met on the way ends it (R252). -/
def Mod.resolve (m : Mod) (c j outcome reason detail cr : Nat) (r : Option Run) : Mod :=
  let m1 := match r with | some r => m.endWork c r | none => m
  if m1.mon.fltState ≠ 0 then m1
  else
    -- what the end of the work has moved is charged as well (R259, R269)
    let r1 := r.map (fun r => { r with cnt := match m1.run? c with | some q => q.cnt | none => r.cnt })
    let m2 := m1.writeOut c j outcome reason detail cr r1
    if m2.mon.fltState ≠ 0 then m2
    else
      let m3 := m2.cxMap c (fun x =>
        { x with consumer := (j + 1) % 2 ^ 32, word := doneWord j outcome reason, run := none, next := none, nextRec := 0,
                 marks := x.marks.filter (fun k => k != j), past := tset x.past j outcome })
      let m4 := (m3.again c).walk
      if crIrq cr then m4.ctxMsix c else m4
/-- The entry and the accounting record of a context can be reached; a record outside Table 1.7 meets its fault at the write (R16, R21). -/
def Mod.acctReach (m : Mod) (c : Nat) : Bool := m.safeReach (m.cx c).acct && m.safeReach (m.ctxAddr c)
/-- The safelight raises the dies on its way to an address (R21). -/
def Mod.safeRaise (m : Mod) (a : Nat) : Mod := m.touch 4 (targetOf a)
/-- The safelight raises the dies on its way to what it writes at a resolution (R21). -/
def Mod.acctRaise (m : Mod) (c : Nat) : Mod := (m.safeRaise (m.cx c).acct).safeRaise (m.ctxAddr c)
/-- Nothing that a command has written waits anywhere. -/
def Mod.allStored (m : Mod) (c : Nat) : Bool := m.noneLeft (fun _ _ k => k == c)
/-- The Groomers that work for a command. -/
def Mod.groomersOf (m : Mod) (c : Nat) : List Nat := [0, 1, 2, 3].filter (fun d => (m.g d).ctx == some c)
/-- The Groomers of a completed command write the blocks that they have staged (R271). -/
def Mod.flushFor (m : Mod) (c : Nat) : Mod := (m.groomersOf c).foldl (fun m d => m.gFlush (m.g d).stage.length d) m
/-- A completed command's Groomers write what they have staged; its work ends; once its last store is complete, and its accounting record can be reached, it is resolved (R21, R25). -/
def Mod.tryResolve (m : Mod) (c : Nat) : Mod :=
  match m.run? c with
  | some r =>
    if r.phase ≠ 3 then m
    else
      let m0 := if r.ended then m else m.flushFor c
      let waits := !r.ended && (m0.groomersOf c).any (fun d => !(m0.g d).stage.isEmpty)
      let m1 := if waits then m0 else if r.ended then m0.drainCtx c else (m0.quiesce c r).runMap c (fun r => { r with ended := true })
      if m1.mon.fltState ≠ 0 ∨ waits then m1
      else if m1.acctReach c && m1.allStored c then m1.resolve c r.j r.outcome r.reason r.detail r.cr (some { r with ended := true })
      else m1.acctRaise c
  | none => m
/-- A die has woken: resolutions that waited for it go on (R21). -/
def Mod.safeRetry (m : Mod) : Mod := (m.safe.ctx.map (fun p => p.1)).foldl (fun m c => m.tryResolve c) m
/-- Fix ABORTED for a running command: work stops and the drain begins (R254, R256). -/
def Mod.fixAbort (m : Mod) (c reason detail : Nat) : Mod :=
  match m.run? c with
  | some r =>
    if r.outcome ≠ 0 then m
    else
      let m1 := (m.stopWork r).cxMap c (fun x => { x with run := some { r with outcome := 2, reason := reason, detail := detail, tFix := m.time, phase := 2 } })
      m1.safeMap (fun s => { s with checks := s.checks.filter (fun k => k != c) })
  | none => m

/-! Finding work (R22, R245, R246, R249, R254, R255). -/

/-- SAFELIGHT_POLL: at most 64 set bits after the last one taken are cleared and their entries' reads start (R22, R24, R249). -/
def execSafelightPoll (s : State) : Host.Outcome State Fault Refusal :=
  .next (s.on fun m =>
    if !m.ld.started || m.mon.fltState != 0 || m.pw.warm.isSome then m
    else m.using [0x100004] fun m =>
      let l := m.safe.mirror
      let found := (l.filter (fun c => decide (m.safe.lastTaken < c)) ++ l.filter (fun c => decide (c ≤ m.safe.lastTaken))).take 64
      match found.getLast? with
      | none => m.pollWalk
      | some z =>
        let m1 := found.foldl (fun m c => m.clearBit c) m
        let m2 := m1.safeMap (fun s => { s with lastTaken := z, reads := s.reads ++ found.filter (fun c => !s.reads.contains c) })
        if m2.safeReach m2.img.ctxTable then m2 else m2.raiseAll)
/-- Least recently used bytes go when the cache holds more than 4,096 contexts (R246). -/
def Mod.cacheUse (m : Mod) (c : Nat) : Mod := m.safeMap (fun s => { s with lru := (c :: s.lru.filter (fun k => k != c)).take 4096 })
/-- Bytes 16 to 63 of an entry are read afresh (R246). -/
def Mod.fillEntry (m0 : Mod) (c : Nat) : Mod :=
  let m := m0.safeRead (m0.ctxAddr c + 16) 48
  let e := m.rdn (m.ctxAddr c) 64
  m.cxMap c (fun x => { x with word := fld e 191 128, consumer := if x.run.isSome then x.consumer else fld e 223 192, msix := fld e 234 224,
                               ring := fld e 303 256, acct := fld e 367 320, seed := fld e 447 384 })
/-- Bytes 0 to 15 of an entry break R245 (log entry 31 on STATE). -/
def entryLowBad (e : Nat) : Bool :=
  decide (3 < fld e 7 0) || fld e 23 19 != 0 || fld e 127 97 != 0 || decide (fld e 31 24 < 4) || decide (16 < fld e 31 24)
/-- Bytes 16 to 63 of an entry break R245. -/
def entryHighBad (e : Nat) : Bool :=
  fld e 239 235 != 0 || fld e 255 240 != 0 || fld e 319 304 != 0 || fld e 383 368 != 0 || fld e 511 448 != 0
  || fld e 303 256 % 4096 != 0 || fld e 367 320 % 64 != 0
/-- An abort request in bytes 8 to 15 of an entry (R254, R255). -/
def Mod.abortReq (m : Mod) (c e : Nat) : Mod :=
  if !bitAt e 96 then m
  else
    let j := fld e 95 64
    let m1 := m.safeWr (m.ctxAddr c + 12) [BitVec.ofNat 8 (fld e 103 97 * 2)]
    let x := m1.cx c
    let ahead := (fld e 63 32 + 2 ^ 32 - j) % 2 ^ 32
    if ahead = 0 ∨ 2 ^ 31 < ahead then m1
    else if (match x.run with | some r => r.j == j && r.outcome != 1 | none => false) then m1.fixAbort c 0x0801 0
    else match (match x.run with | some r => if r.j = j then some 1 else tget? x.past j | none => tget? x.past j) with
      | some 1 =>
        let m2 := if m.safe.lru.contains c then m1 else m1.safeRead (m.ctxAddr c + 40) 6
        let a := if m.safe.lru.contains c then x.acct else m2.rdn (m.ctxAddr c + 40) 6
        let m3 := m2.safeRead (a + 16) 8
        m3.safeWr (a + 16) (natLE 8 (satAdd 64 (m3.rdn (a + 16) 8) 1))
      | some _ => m1
      | none =>
        if x.next = some j ∧ x.nextSt = 1 then m1.resolve c j 2 0x0801 0 x.nextRec none
        else if (j + 2 ^ 32 - x.consumer) % 2 ^ 32 < 2 ^ 31 then (m1.cxput c { x with marks := linsert j x.marks }).prepare c true
        else m1
/-- A context in ERROR leaves the ready list, and no poll waits for a record of it (R247, R250). -/
def Mod.dropNext (m : Mod) (c : Nat) : Mod :=
  (m.cxMap c (fun x => { x with ready := x.ready && x.run.isSome, next := none })).safeMap (fun s => { s with recs := s.recs.filter (fun k => k != c) })
/-- The entry of context c has been read (R245 to R247, R390). -/
def Mod.entryRead (m : Mod) (c : Nat) : Mod :=
  let e := m.rdn (m.ctxAddr c) 64
  let st := fld e 7 0
  if st = 0 then
    (m.safeMap (fun s => { s with lru := s.lru.filter (fun k => k != c), recs := s.recs.filter (fun k => k != c) })).cxMap c (fun x =>
      { x with state := 0, marks := [], past := [], ready := x.ready && x.run.isSome, next := none })
  else
    let fresh := !m.safe.lru.contains c
    let m1 := if st ≤ 2 then (if fresh then m.fillEntry c else m).cacheUse c else m
    let m2 := m1.cxMap c (fun x => { x with state := st, prio := fld e 18 16, ringLog := fld e 31 24, producer := fld e 63 32 })
    let m3 := ((if st = 3 then m2.dropNext c else m2)).abortReq c e
    let x := m3.cx c
    if m3.mon.fltState ≠ 0 ∨ st = 3 then m3
    else if entryLowBad e || (fresh && entryHighBad e) then
      (m3.safeMap (fun s => { s with lru := s.lru.filter (fun k => k != c) })).ctxError c 1
    else if x.overrun then m3.ctxError c 2
    else if x.producer = x.consumer then m3
    else if x.ready then m3.prepare c true
    else if 4096 ≤ (m3.safe.ctx.filter (fun p => p.2.ready)).length then (m3.setBit c).raiseEv evCtx 2
    else (m3.cxput c { x with ready := true, nextAt := m3.time }).prepare c true
/-- CONTEXT_ENTRY_READ (R246): the read of a found context's entry completes. -/
def execContextEntryRead (ctx : Nat) (s : State) : Host.Outcome State Fault Refusal :=
  .next (s.on fun m =>
    if !m.safe.reads.contains ctx then m
    else if !m.safeReach (m.ctxAddr ctx) then m.raiseAll
    else if bitAt (m.rdn (m.ctxAddr ctx) 16) 96 ∧ !m.acctReach ctx then m.acctRaise ctx
    else
      let m1 := (m.safeRead (m.ctxAddr ctx) 16).safeMap (fun s => { s with reads := s.reads.filter (fun k => k != ctx) })
      if m1.mon.fltState ≠ 0 then m1 else (m1.entryRead ctx).pollWalk)

/-- A record that R248 rejects. -/
def badCommand (x : Nat) : Bool :=
  crScores x == 0 || decide (16384 < nChan x) || fld x 79 74 != 0 || fld x 127 113 != 0 || fld x 191 176 != 0 || fld x 511 320 != 0
  || (crCal x && crCalUse x)
/-- Address of command j's record (R245). -/
def Ctx.recAddr (x : Ctx) (j : Nat) : Nat := x.ring + 64 * (j % 2 ^ x.ringLog)
/-- The record of the next command has been read (R248, R255). -/
def Mod.recRead (m : Mod) (c : Nat) : Mod :=
  let x := m.cx c
  match x.next with
  | none => m
  | some j =>
    let a := x.recAddr j
    let raw := m.rdn a 64
    if x.marks.contains j then m.resolve c j 2 0x0801 0 raw none
    else if badCommand raw then m.resolve c j 2 0x0802 a raw none
    else m.cxput c { x with nextRec := raw, nextSt := 1 }
/-- COMMAND_RECORD_READ (R248). The last record of a poll is followed by the poll's walk; a record read after a resolution waits for the next
walk (R250). -/
def execCommandRecordRead (ctx : Nat) (s : State) : Host.Outcome State Fault Refusal :=
  .next (s.on fun m =>
    let x := m.cx ctx
    match x.next with
    | none => m
    | some j =>
      let a := x.recAddr j
      if x.nextSt ≠ 0 ∨ m.mon.fltState ≠ 0 ∨ x.run.isSome then m
      else if !mapped a 64 then m.fatal 0x0F09 4 0x3FF a
      else if !m.safeReach a then m.raiseAll
      else if !m.acctReach ctx ∧ (x.marks.contains j ∨ badCommand (m.rdn a 64)) then m.acctRaise ctx
      else
        let m1 := (m.safeRead a 64).safeMap (fun s => { s with recs := s.recs.filter (fun k => k != ctx) })
        if m1.mon.fltState ≠ 0 then m1
        else if m.safe.recs.contains ctx then (m1.recRead ctx).pollWalk
        else m1.recRead ctx)

/-! Start (R20, R122, R134, R139, R183, R222). -/

/-- What the start checks read of a command's reach table and lists. -/
def Mod.checkReads (m : Mod) (cr : Nat) : List (Nat × Nat) :=
  ((crReach cr, 64) :: ((m.reachEntries (crReach cr)).flatMap (fun ea =>
    let x := m.rdn ea 16
    [(ea, 16), (fld x 47 0, 32 * reCOUNT x)]))).filter (fun p => p.2 != 0 && mapped p.1 p.2)
/-- START_CHECKS: the loader's checks of the oldest waiting command end; they wait for a die in DEEP that holds what they read (R21, R222). -/
def execStartChecks (s : State) : Host.Outcome State Fault Refusal :=
  .next (s.on fun m =>
    match m.safe.checks with
    | [] => m
    | c :: rest =>
      match m.run? c with
      | none => m.safeMap (fun s => { s with checks := rest })
      | some r =>
        let asleep := ((m.checkReads r.cr).flatMap (fun p => [p.1, p.1 + p.2 - 1])).filter (fun a => !m.safeReach a)
        if !asleep.isEmpty ∨ !m.acctReach c then asleep.foldl (fun m a => m.safeRaise a) (m.acctRaise c)
        else
        let m0 := (m.checkReads r.cr).foldl (fun m p => m.safeRead p.1 p.2) m
        let m1 := m0.safeMap (fun s => { s with checks := rest })
        if m0.mon.fltState ≠ 0 then m0
        else match m0.startBad r.cr ((m.cx c).recAddr r.j) with
        | some (code, detail) =>
          let r1 := { r with outcome := 2, reason := code, detail := detail, tFix := m.time }
          m1.resolve c r.j 2 code detail r.cr (some r1)
        | none =>
          let m2 := (m1.keepResult r.cr).cxMap c (fun x => { x with run := some { r with raised := true } })
          let ds := crDieList r.cr
          let m3 := if ds.any (fun d => (m2.die d).st == 0 || (m2.die d).entering == some 0) then m2.raiseAll else m2
          ds.foldl (fun m d => m.wakeTo d 2) m3)
/-- Zero every working tile of a die (R139). -/
def Mod.zeroWorking (m : Mod) (d : Nat) : Mod :=
  (List.range 72).foldl (fun m j => if m.resident (72 * d + j) then m else m.zero (mtBase (72 * d + j)) 0x400000) m
/-- A core at a command start: semaphores at their slide's initial values, flags clear, engines empty (R134). -/
def Tile.coreStart (t : Tile) : Tile :=
  let sem : Tbl Nat := (List.range 32).filterMap (fun i => let v := t.sl t.cur (64 + 2 * i) 2; if v = 0 then none else some (i, v))
  { t.halt with sem := sem, satHi := 0, satLo := 0 }
/-- An S-core at its launch (R122, Table 5.8). -/
def Mod.launchSc (m : Mod) (c : Nat) (r : Run) (n : Nat) : Mod :=
  m.sput n { running := true, ctx := c, pc := crEntry r.cr, args := crArgs r.cr, ap0 := mtBase (72 * (n / 16)),
             ap1 := (n / 16) * 0x004800000000, launch := m.time, timeHi := m.time / 2 ^ 32 % 2 ^ 32 }
/-- The doorbell words of an S-core's post areas are zeroed and the engines start at slot 0 again (R314). -/
def Mod.postStart (m : Mod) (n : Nat) : Mod :=
  [0, 1].foldl (fun m x =>
    let k := 64 * x + n
    (m.zero (m.bell n x) 8).ersMap (fun e =>
      { e with taken := tdel e.taken k, stopped := e.stopped.filter (fun j => j != k), notice := e.notice.filter (fun j => j != k) })) m
/-- Every start action of a command whose dies are in RUN. -/
def Mod.startRun (m : Mod) (c : Nat) (r : Run) : Mod :=
  let ds := crDieList r.cr
  let m1 := ds.foldl (fun m d => match (m.die d).tenancy with | some t => if t = r.tenancy then m else m.zeroWorking d | none => m) m
  let m2 := (ds.flatMap dieTiles).foldl (fun m i => let t := (m.t i).carReset; m.changed i (if isCore i then t.coreStart else t)) m1
  let m3 := (crScList r.cr).foldl (fun m n => (m.postStart n).launchSc c r n) m2
  let m4 := ds.foldl (fun m d => m.gBegin d c) m3
  m4.cxMap c (fun x => { x with run := some { r with phase := 1, launched := true, tLaunch := m.time } })
/-- A die reaches RUN; its memory tiles ungate (Table 1.9). -/
def Mod.toRun (m : Mod) (d : Nat) : Mod := (m.dput d { m.die d with st := 2, waking := none }).ungateDie d
/-- WAKE_TO_RUN_DONE: the dies of a waking command reach RUN and its start actions follow; with no command of the context waking, dies
that SAFE_SLEEP_CTRL alone raises reach RUN (R20; log entry 32). -/
def execWakeToRunDone (ctx : Nat) (s : State) : Host.Outcome State Fault Refusal :=
  .next (s.on fun m =>
    let up (d : Nat) : Bool := ((m.die d).st == 2 && (m.die d).entering.isNone) || ((m.die d).st == 1 && (m.die d).waking == some 2)
    match m.run? ctx with
    | some r =>
      if r.phase == 0 && r.raised && (crDieList r.cr).all up then ((crDieList r.cr).foldl (fun m d => m.toRun d) m).startRun ctx r else m
    | none => ((List.range 6).filter (fun d => (m.die d).st == 1 && (m.die d).waking == some 2 && (m.die d).ctx.isNone)).foldl (fun m d => m.toRun d) m)

/-! Events (R254). -/

/-- DONE_REPORT: one S-core's DONE is handled; the last one fixes COMPLETED and resolves the command (R25, R254, R257). -/
def Mod.doneReport (m : Mod) (n : Nat) : Mod :=
  if !m.safe.reports.contains n then m
  else
    let m1 := m.safeMap (fun s => { s with reports := s.reports.filter (fun k => k != n) })
    let c := (m1.s n).ctx
    match m1.run? c with
    | none => m1
    | some r =>
      if r.phase ≠ 1 ∨ r.outcome ≠ 0 ∨ !(crScList r.cr).contains n then m1
      else
        let r1 := { r with done := tset r.done n (((m1.s n).doneSt).getD 0) }
        let m2 := m1.cxMap c (fun x => { x with run := some r1 })
        if (crScList r.cr).all (fun k => (tget? r1.done k).isSome) then
          let status (k : Nat) : Nat := tget 0 r1.done k
          let bad := (crScList r.cr).find? (fun k => status k != 0)
          let reason := match bad with | some k => status k % 65536 | none => 0
          let detail := match bad with | some k => status k % 2 ^ 32 + k * 2 ^ 48 | none => 0
          let r2 := { r1 with outcome := 1, reason := reason, detail := detail, tFix := m.time, phase := 3 }
          (m2.cxMap c (fun x => { x with run := some r2 })).tryResolve c
        else m2
/-- DONE_REPORT (R254). -/
def execDoneReport (n : Nat) (s : State) : Host.Outcome State Fault Refusal := .next (s.on fun m => m.doneReport n)
/-- COMMAND_FAULT_EVENT: the oldest fault event fixes ABORTED, unless the outcome is fixed (R254, R256). -/
def execCommandFaultEvent (s : State) : Host.Outcome State Fault Refusal :=
  .next (s.on fun m =>
    match m.safe.events with
    | [] => m
    | e :: rest => (m.safeMap (fun s => { s with events := rest })).fixAbort e.ctx e.reason e.detail)
/-- ABORT_DRAIN_DONE: no remote access of the command is outstanding; what it issued completes, its work ends, and it is resolved
(R217, R256). -/
def execAbortDrainDone (ctx : Nat) (s : State) : Host.Outcome State Fault Refusal :=
  .next (s.on fun m =>
    match m.run? ctx with
    | some r =>
      let m1 := m.drainCtx ctx
      if r.phase ≠ 2 then m
      else if !m.acctReach ctx then m.acctRaise ctx
      else if m.ers.txns.all (fun x => x.ctx != ctx) && m1.allStored ctx then m1.resolve ctx r.j 2 r.reason r.detail r.cr (some r)
      else m1
    | none => m)

end Sys2Proof.Machine
end

