-- ==== Sys2Proof/Machine/Host.lean ====
section
/-! DEFINITION. Host accesses through BAR2, and the wakes they wait for (R20, R21, R24, R216, R244, R374 to R378). -/

namespace Sys2Proof.Machine

/-- Where a BAR2 access leads. -/
inductive HostTo where
  | dev (a : Nat)
  | bits (off : Nat)
  | refused (a : Nat)
  | nothing
deriving DecidableEq, Repr

/-- Base of the PF window (Table 14.10). -/
def Mod.bar2Base (m : Mod) : Nat := m.rg 0x700004 % 65536 * 2 ^ 32 + fld (m.rg 0x700000) 31 30 * 2 ^ 30
/-- Base and size of a VF's range. -/
def Mod.vfBase (m : Mod) (t : Nat) : Nat := fld (m.rg (0x700104 + 8 * t)) 15 0 * 2 ^ 32 + fld (m.rg (0x700100 + 8 * t)) 31 30 * 2 ^ 30
def Mod.vfSize (m : Mod) (t : Nat) : Nat := fld (m.rg (0x700104 + 8 * t)) 18 16 * 2 ^ 30
/-- Target of n bytes at a BAR2 offset (R376, R377). -/
def Mod.bar2 (m : Mod) (fn off n : Nat) : HostTo :=
  if fn = 0 then (if off + n ≤ 2 ^ 36 then .dev (m.bar2Base + off) else .nothing)
  else if 64 ≤ fn then .nothing
  else if off < 2 ^ 32 then (if off + n ≤ m.vfSize fn then .dev (m.vfBase fn + off) else .refused (m.vfBase fn + off))
  else if off + n ≤ 2 ^ 32 + 65536 then .dev (m.img.ctxTable + 65536 * fn + (off - 2 ^ 32))
  else if 2 ^ 32 + 65536 ≤ off ∧ off + n ≤ 2 ^ 32 + 65536 + 128 then .bits (128 * fn + (off - (2 ^ 32 + 65536)))
  else .nothing
/-- A refused access is recorded; only the first address until the record is read (R378, Table 14.10). -/
def Mod.refuse (m : Mod) (fn a bit : Nat) : Mod :=
  let m1 := m.raiseEv evMem bit
  if m1.host.refOpen then
    { (m1.rput 0x700018 (a % 2 ^ 32)).rput 0x70001C (fld a 47 32 + 2 ^ 16 * fn) with host := { m1.host with refOpen := false } }
  else m1

/-- The owner check of R140 for a host access; the PF bypasses it (R376). -/
def Mod.hostMay (m : Mod) (fn a n : Nat) : Bool :=
  let mt := (a - spBase) / 0x400000
  fn == 0 || !inSp a n || (List.range ((a + n - 1 - spBase) / 0x400000 + 1 - mt)).all (fun i => m.tenOk (mt + i) fn)
/-- Byte of the context table that lies outside the slice of a VF (R244). -/
def Mod.foreign (m : Mod) (fn a : Nat) : Bool :=
  fn != 0 && decide (m.img.ctxTable ≤ a) && decide (a < m.img.ctxTable + 0x400000) && (a - m.img.ctxTable) / 65536 != fn
/-- The mirror as a function reads it: a VF reads zero outside its slice (R244). -/
def Mod.bitsRead (m : Mod) (fn off n : Nat) : List Byte :=
  (List.range n).map (fun i => if fn = 0 ∨ (off + i) / 128 = fn then mirrorByte m.safe.mirror (off + i) else 0)
/-- Offset of an address in the bitmap range, if it lies there. -/
def Mod.bitmapOff (m : Mod) (a : Nat) : Option Nat :=
  if m.img.bitmap ≤ a ∧ a < m.img.bitmap + 8192 then some (a - m.img.bitmap) else none
/-- The host path's write of bytes of device memory, a request at their memory like any other (R138, R144). -/
def Mod.hostPut (m : Mod) (a : Nat) (bs : List Byte) : Mod := (m.issue hostId 4 0 noCtx a bs).drain (fun u _ _ => u == hostId)
/-- A host write takes effect: bytes of the bitmap range set bits, bytes of other slices are dropped (R24, R244). -/
def Mod.hostWrite (m : Mod) (fn a : Nat) (bs : List Byte) : Mod :=
  let b := m.img.bitmap
  let k1 := Nat.min bs.length (b - a)
  let k2 := Nat.min bs.length (b + 8192 - a)
  let own := (bs.zip ((m.rd a bs.length).zipIdx)).map (fun p => if m.foreign fn (a + p.2.2) then p.2.1 else p.1)
  let m2 := (m.hostPut a (own.take k1)).bitmapWrite fn (a + k1 - b) ((bs.take k2).drop k1)
  m2.hostPut (a + k2) (own.drop k2)
/-- What a host read of some bytes of device memory returns: the mirror in the bitmap range, zero outside a VF's slices (R24, R244). -/
def Mod.hostRead (m : Mod) (fn a : Nat) (bs : List Byte) : List Byte :=
  bs.zipIdx.map (fun p => match m.bitmapOff (a + p.2) with
    | some o => nth 0 (m.bitsRead fn o 1) 0
    | none => if m.foreign fn (a + p.2) then 0 else p.1)
/-- Every byte of an access lies in the bitmap range, which is the mirror (R24). -/
def Mod.inBitmap (m : Mod) (x : HostAcc) : Bool := (m.bitmapOff x.addr).isSome && (m.bitmapOff (x.addr + x.len - 1)).isSome
/-- An access takes effect now: tenancy, then the bytes; a contained module drops writes and returns zeros (R409). -/
def Mod.hostDo (m : Mod) (x : HostAcc) : Mod :=
  let zeros (m : Mod) : Mod := m.answer (if x.wr then [] else List.replicate x.len 0) false
  if m.mon.fltState ≠ 0 then zeros m
  else if !m.hostMay x.fn x.addr x.len then zeros (m.refuse x.fn x.addr 2)
  else if x.wr then (m.hostWrite x.fn x.addr x.data).answer [] false
  else if m.inBitmap x then m.answer (m.hostRead x.fn x.addr (List.replicate x.len 0)) false
  else match m.fetch hostId noCtx x.addr x.len with
    | (some bs, m1) => m1.answer (m1.hostRead x.fn x.addr bs) false
    | (none, m1) => zeros m1
/-- No die on the way of an access is in DEEP; the bitmap range is the mirror, which never sleeps (R21, R24). -/
def Mod.hostAwake (m : Mod) (x : HostAcc) : Bool :=
  m.inBitmap x || m.awake 4 x.addr x.len
/-- An access must stay behind one that waits: a write without relaxed ordering behind any write, a read behind a write without it
(R216); any write behind one that the flash buffer has no room for, because the credits are withheld (R370). -/
def HostAcc.behind (x y : HostAcc) : Bool := y.wr && (if x.wr then !x.relaxed || y.space == .bar4 else !y.relaxed)
/-- Where a BAR2 access of a function leads, with the address it takes on receipt (R376); none where it ends at once. -/
def Mod.bar2Acc (m : Mod) (fn off n : Nat) (wr relaxed : Bool) (data : List Byte) : Option HostAcc :=
  match m.bar2 fn off n with
  | .bits o => some { space := .bitmap, fn := fn, addr := o, len := n, wr := wr, relaxed := relaxed, data := data }
  | .dev a => if mapped a n then some { fn := fn, addr := a, len := n, wr := wr, relaxed := relaxed, data := data } else none
  | _ => none
/-- The address of a BAR2 access that is refused (R378). -/
def Mod.bar2Refused (m : Mod) (fn off n : Nat) : Option Nat :=
  match m.bar2 fn off n with
  | .refused a => some a
  | .dev a => if mapped a n then none else some a
  | _ => none

end Sys2Proof.Machine
end

