-- ==== Sys2Proof/Machine/Image.lean ====
section
/-! DEFINITION. The Karmon image: header, record stream, the staged configuration and the activation checks (R221, R225 to R231,
R295, R328, R330 to R344). -/

namespace Sys2Proof.Machine

/-! Flash, header and signature (R330 to R334). -/

/-- Bytes of the flash; an erased or never written byte reads 0xFF (R370). -/
def NonVol.bytes (nv : NonVol) (a n : Nat) : List Byte := mread 0xFF nv.flash a n
/-- Rollback floor (R336). -/
def NonVol.floor (nv : NonVol) : Nat := Nat.min 64 (Config.floorFuses + nv.blown)
/-- Header fields (Table 13.2). -/
def hSeg (x : Nat) : Nat := fld x 159 144
def hSec (x : Nat) : Nat := fld x 143 128
def hVersion (x : Nat) : Nat := fld x 127 96
def hPlain (x : Nat) : Nat := fld x 319 256
/-- Flash offset of segment i (R331). -/
def flashSeg (nseg i : Nat) : Nat := 65536 * (ceilDiv (512 + 64 * nseg) 65536 + i)
/-- Phase 1: the code and detail of the first failure (R332, R333). -/
def NonVol.headerBad (nv : NonVol) : Option (Nat × Nat) :=
  let hb := nv.bytes 0 256
  let x := leNat hb
  let sig := nv.bytes 256 256
  let table := nv.bytes 512 (64 * hSeg x)
  if fld x 63 0 ≠ 0x4D494E4F4D52414B ∨ fld x 191 160 ≠ 1 ∨ hSeg x = 0 ∨ 4090 < hSeg x ∨ fld x 2047 576 ≠ 0 then some (0x0C01, 0xFFFFFFFF)
  else if fld x 95 64 ≠ 0x1152 ∨ (fld x 255 192 ≠ 0 ∧ fld x 255 192 ≠ Config.unitId) then some (0x0C02, 0)
  else if hSec x < nv.floor then some (0x0C03, nv.floor)
  else if sha384 (sig.take 96) ≠ Config.ownerKeyHash then some (0x0C04, 0)
  else if !ecdsaVerify (sig.take 48) ((sig.drop 48).take 48) ((sig.drop 96).take 48) ((sig.drop 144).take 48) (sha384 (hb ++ table))
    then some (0x0C05, 0)
  else none
/-- Info string of a segment key: KARMON-SEG and the index (R337). -/
def segInfo (i : Nat) : List Byte := [0x4B, 0x41, 0x52, 0x4D, 0x4F, 0x4E, 0x2D, 0x53, 0x45, 0x47] ++ natLE 4 i

/-! Records (R338, R339). -/

/-- A record header that Tables 13.7 and 13.8 do not allow: type, length, target, a second copy of a single record. -/
def recHeadBad (recs : List ImgRec) (h : Nat) : Bool :=
  let t := fld h 15 0
  let n := fld h 63 32
  let a := fld h 127 64
  let single := recs.any (fun r => r.typ == t && (t != 12 || r.target == a))
  fld h 31 16 != 0 || (match t with
    | 0 => n != 0 || a != 0 || single
    | 1 => n != 64 || a != 0 || single
    | 2 =>
      let k := n / 1024
      n % 1024 != 0 || k == 0 || decide (2 ^ 32 ≤ a) || !faOk a || (if faProg a then decide (192 < faIndex a + k) else decide (4 < faFrame a + k))
    | 3 => decide (458752 < a + n)
    | 4 => n != 288 || a != 0 || single
    | 5 => n % 16 != 0 || a != 0 || single
    | 6 => n % 128 != 0 || n == 0 || decide (64 * 128 < n) || a != 0 || single
    | 7 => n != 32 || a != 0 || single
    | 8 => n != 64 || a != 0 || single
    | 9 => n % 16 != 0 || decide (1024 < a + n / 16)
    | 10 => n % 32 != 0 || decide (4096 < a + n / 32)
    | 11 => n % 16 != 0 || decide (4096 < a + n / 16)
    | 12 => n != 64 || decide (3 < a) || single
    | 13 => n != 44 || a != 0 || single
    | 14 => n % 16 != 0 || a != 0 || single
    | 15 => false
    | 16 => n != 32 || a != 0
    | _ => true)
/-- Entries of a table record. -/
def entriesOf (size : Nat) (bs : List Byte) : List Nat := (chunks size bs).map leNat
/-- A reserved field of a record's body is not zero (R339; Tables 11.4, 12.5, 12.8, 12.9, 13.9 to 13.12): the stream is parsed before any
activation check, so this comes before the loader codes that name such a field (log entry 96). Bits [63:48] of an address field given as
[47:0], and the other bits of a REQUESTORS word whose VALID is clear, are taken as reserved (DESIGN CHOICE, log entry 108). -/
def recBodyBad (t : Nat) (bs : List Byte) : Bool :=
  let x := leNat bs
  match t with
  | 1 => fld x 63 48 != 0 || fld x 127 112 != 0 || fld x 511 224 != 0
  | 5 => (entriesOf 16 bs).any (fun e => fld e 127 73 != 0)
  | 6 => (entriesOf 128 bs).any (fun e => fld e 1023 835 != 0)
  | 7 => (entriesOf 4 bs).any (fun e => fld e 14 13 != 0 || fld e 31 16 != 0 || (!bitAt e 15 && e != 0))
  | 8 => fld x 14 10 != 0 || fld x 511 120 != 0
  | 9 => (entriesOf 16 bs).any (fun e => fld e 127 65 != 0)
  | 10 => (entriesOf 32 bs).any (fun e => fld e 255 129 != 0)
  | 11 => (entriesOf 16 bs).any (fun e => fld e 63 34 != 0 || fld e 127 112 != 0)
  | 12 => gRecReserved x
  | 14 => (entriesOf 16 bs).any (fun e => fld e 31 22 != 0 || fld e 127 64 != 0)
  | _ => false
/-- Parse whole records from a position; s0 and s1 bound the plaintext of the segment just added. A failure gives the byte position of
the record at fault (RECORD_FORMAT). -/
def parseRecs (S : List Byte) (s0 s1 : Nat) : Nat → Nat → List ImgRec → Except Nat (List ImgRec × Nat)
  | 0, pos, recs => .ok (recs, pos)
  | f + 1, pos, recs =>
    if recs.any (fun r => r.typ == 0) then (if pos < S.length then .error pos else .ok (recs, pos))
    else if S.length < pos + 16 then .ok (recs, pos)
    else
      let h := leNat ((S.drop pos).take 16)
      let n := fld h 63 32
      if recHeadBad recs h then .error pos
      else if fld h 15 0 = 16 ∧ (pos < s0 ∨ pos + 48 ≠ s1) then .error pos
      else
        let e := pos + 16 + 16 * ceilDiv n 16
        if S.length < e then .ok (recs, pos)
        else
          let body := (S.drop (pos + 16)).take n
          if ((S.drop (pos + 16 + n)).take (e - (pos + 16 + n))).any (fun b => b != 0) || recBodyBad (fld h 15 0) body then .error pos
          else parseRecs S s0 s1 f e (recs ++ [⟨fld h 15 0, fld h 127 64, body, pos⟩])

/-! The staged configuration. -/

/-- Records of a type; the body of a single record as a number, with a default. -/
def recsOf (l : List ImgRec) (t : Nat) : List ImgRec := l.filter (fun r => r.typ == t)
def bodyOf (l : List ImgRec) (t : Nat) : List Byte := match recsOf l t with | r :: _ => r.body | [] => []
/-- Rows of the table records of a type: index and entry. -/
def rowsOf (l : List ImgRec) (t size : Nat) : Tbl Nat :=
  (recsOf l t).foldl (fun acc r => (entriesOf size r.body).zipIdx.foldl (fun acc p => tset acc (r.target + p.2) p.1) acc) []
/-- Frames of the image: address and bytes (R357). -/
def framesOf (l : List ImgRec) : List (Nat × List Byte) :=
  (recsOf l 2).flatMap (fun r => (chunks 1024 r.body).zipIdx.map (fun p => (r.target + p.2 * (if faProg r.target then 2 ^ 11 else 2 ^ 14), p.1)))
/-- A tile with the image's frames; slides that have a frame are valid, the home slide and those it names ACTIVE (R160, R161). -/
def stageTile (fs : List (Nat × List Byte)) (i : Nat) : Tile :=
  let mine := fs.filter (fun f => faTile f.1 == i)
  let t0 : Tile := mine.foldl (fun t f => t.putFrame f.1 f.2) {}
  let valid := (List.range 8).filter (fun e => mine.any (fun f => !faProg f.1 && faSlide f.1 == e))
  let h := nth 0 (valid.filter (fun e => bitAt (t0.sl e 0 1) 0)) 0
  let t1 : Tile := { t0 with home := h, cur := h, slide := valid.map (fun e => (e, if e = h ∨ t0.names h e then 1 else 2)) }
  let t2 := t1.carReset
  if kindOf i = .mem then t2.loadSlots i t2.cur else t2
/-- The image's own records (R338 to R343). -/
def stageImg (l : List ImgRec) (hdr : List Byte) : Image :=
  let h := leNat (hdr.take 256)
  let g := leNat (bodyOf l 1)
  { version := hVersion h, sec := hSec h, ctxTable := fld g 47 0, bitmap := fld g 111 64,
    memTiles := (bodyOf l 4).zipIdx.map (fun p => (p.2, p.1.toNat)), allocs := entriesOf 16 (bodyOf l 5), regions := entriesOf 128 (bodyOf l 6),
    reqs := (entriesOf 4 (bodyOf l 7)).zipIdx.map (fun p => (p.2, p.1)), energy := entriesOf 4 (bodyOf l 13), depths := entriesOf 16 (bodyOf l 14),
    groomer := (recsOf l 12).foldl (fun t r => tset t r.target (leNat r.body)) [],
    safeFw := (recsOf l 3).foldl (fun m r => mwrite 0 m r.target r.body) [],
    mImage := sha384 hdr }
/-- Member list of a group from memory (R313). -/
def Mod.listOf (m : Mod) (g : Nat) : List Nat := (List.range (fld g 20 10)).map (fun i => m.rdn (fld g 111 64 + 2 * i) 2 % 1024)
/-- Ersan as the image sets it, every enabled port training (R297, R304, R313, R343). -/
def Mod.stageErs (m : Mod) (l : List ImgRec) : Ersan :=
  let e := leNat (bodyOf l 8)
  let groups := rowsOf l 11 16
  { mid := if bitAt e 15 then fld e 9 0 else m.pw.mid, midSrc := bitAt e 15, domain := fld e 31 16, postOff := fld e 63 32,
    route := rowsOf l 9 16, win := rowsOf l 10 32, group := groups,
    lists := (groups.filter (fun p => fld p.2 111 64 != 0)).map (fun p => (p.1, m.listOf p.2)),
    port := (List.range 32).map (fun p => (p, { st := if m.portOn p then 1 else 0 })) }
/-- The module as the records would set it: tiles, image and Ersan. -/
def Mod.staged (m : Mod) : Mod :=
  let fs := framesOf m.ld.recs
  { m with tile := allTiles.map (fun i => (i, stageTile fs i)), img := stageImg m.ld.recs m.ld.hdr, ers := m.stageErs m.ld.recs }

/-! Activation checks (R225). A failure is a code and the index of the object. -/

/-- A field lies outside its range unless it is the default 0. -/
def off0 (v lo hi : Nat) : Bool := v != 0 && (decide (v < lo) || decide (hi < v))
/-- GLOBAL, then ERSAN (R340, R343, R314). -/
def Mod.globalBad (m : Mod) : Bad :=
  let g := leNat (bodyOf m.ld.recs 1)
  let e := leNat (bodyOf m.ld.recs 8)
  let c := fld g 47 0
  let b := fld g 111 64
  let coll := if fld e 111 96 = 0 then 50 else fld e 111 96
  let alive := if fld e 119 112 = 0 then 10 else fld e 119 112
  firstBad [
    badIf (c % 4096 != 0 || decide (0x004800000000 < c + 0x400000) || b % 64 != 0 || decide (0x004800000000 < b + 8192)
      || off0 (fld g 159 128) 5 1250 || off0 (fld g 191 160) 1 10000 || off0 (fld g 223 192) 100 10000000) 0x011C 0,
    badIf (off0 (fld e 79 64) 1 1000 || off0 (fld e 95 80) 10 60000 || off0 (fld e 111 96) 20 60000 || off0 (fld e 119 112) 1 100
      || decide (coll ≤ 4 * alive)) 0x011D 0,
    badIf (fld e 63 32 % 4096 != 0 || decide (0x400000 < fld e 63 32 + 0x3040)) 0x011B 0]
/-- Allocation fields (Table 13.10). -/
def alMt (a : Nat) : Nat := 72 * fld a 1 0 + fld a 8 2
def alOff (a : Nat) : Nat := fld a 30 9
def alSize (a : Nat) : Nat := fld a 53 31
/-- Two allocations clash (R228). -/
def alClash (a b : Nat) : Bool :=
  alMt a == alMt b && decide (alOff a < alOff b + alSize b) && decide (alOff b < alOff a + alSize a)
  && !(bitAt a 72 && bitAt b 72 && fld a 63 54 == fld b 63 54 && fld a 71 64 &&& fld b 71 64 == 0)
/-- The memory map (R140, R228). -/
def Mod.mapBad (m : Mod) : Bad :=
  let al := m.img.allocs.zipIdx
  firstBad (
    m.img.memTiles.map (fun p => badIf (bitAt p.2 7 && decide (64 < fld p.2 6 0)) 0x010C p.1) ++
    al.map (fun p => firstBad [
      badIf (alSize p.1 == 0 || decide (0x400000 < alOff p.1 + alSize p.1) || decide (71 < fld p.1 8 2)) 0x010D p.2,
      badIf ((al.take p.2).any (fun q => alClash p.1 q.1)) 0x010E p.2]))
/-- The region table (R229, R342). -/
def Mod.regionBad (m : Mod) : Bad :=
  let rs := m.img.regions.zipIdx
  let before (k : Nat) : List Nat := (rs.take k).map (fun q => q.1)
  firstBad (
    rs.map (fun p => (allTiles.find? (fun t => inRegion p.1 t && (before p.2).any (fun r => inRegion r t))).map (fun t => (0x010F, t))) ++
    rs.map (fun p => ((List.range 64).find? (fun n => bitAt p.1 (768 + n) && (before p.2).any (fun r => bitAt r (768 + n)))).map
      (fun n => (0x010F, scTile n))) ++
    rs.map (fun p => ((List.range 64).find? (fun n => bitAt p.1 (768 + n) && !inRegion p.1 (scTile n))).map (fun n => (0x0110, scTile n))))
/-- Every tile's slides and program. -/
def Mod.slidesBad (m : Mod) : Bad :=
  firstBad (m.tile.map (fun p => let c := tileCode m.tile p.1 p.2.valid true; badIf (c != 0) c p.1))
/-- Slot-table entry i of a bank in a slide (Table 7.8). -/
def Tile.slideSlot (t : Tile) (e bank i : Nat) : Nat := fld (t.sl e (3072 + 8 * bank) 8) (4 * i + 2) (4 * i)
/-- A named requestor word is valid (R342). -/
def Mod.namedReq (m : Mod) (d i : Nat) : Bool := bitAt (tget 0 m.img.reqs (2 * d + i)) 15
/-- The slot tables of a memory tile break R148. -/
def Mod.slotBad (m : Mod) (i : Nat) (t : Tile) : Bool :=
  t.valid.any (fun e => (List.range 16).any (fun b =>
    let os := (List.range 16).map (t.slideSlot e b)
    decide (12 < (os.filter (fun o => o != 0)).length)
    || os.any (fun o => decide (5 < o) || (o == 4 && !m.namedReq (tDie i) 0) || (o == 5 && !m.namedReq (tDie i) 1))))
/-- A requestor word names no engine of a core on its die (R148). -/
def reqBad (d w : Nat) : Bool :=
  let t := fld w 9 0
  let e := fld w 12 10
  bitAt w 15 && (tDie t != d || !(match kindOf t with
    | .mcore => e == 0 || e == 1 || e == 3 || e == 4
    | .vcore => e == 0 || e == 2 || e == 4
    | _ => false))
/-- The slot tables, then the named requestors. -/
def Mod.slotsBad (m : Mod) : Bad :=
  let w (k : Nat) : Nat := tget 0 m.img.reqs k
  firstBad (
    (m.tile.filter (fun p => kindOf p.1 == .mem)).map (fun p => badIf (m.slotBad p.1 p.2) 0x010A p.1) ++
    (List.range 8).map (fun k => badIf (reqBad (k / 2) (w k) || (k % 2 == 1 && bitAt (w k) 15 && w k == w (k - 1))) 0x010B (fld (w k) 9 0)))
/-- The stream graph and the budgets (R192, R230, R231). -/
def Mod.graphBadAll (m : Mod) : Bad :=
  let T := m.tile
  firstBad [(streamSource T).map (fun t => (0x0104, t)), (streamCycle T).map (fun t => (0x0105, t)),
    (streamRegion T m.img.regions).map (fun t => (0x0106, t)),
    firstBad (T.map (fun p => match m.img.regions.find? (fun r => inRegion r p.1) with
      | some r => badIf (decide (8 < ((List.range 8).filter (fun e => p.2.slState e == 1)).length + fld r 834 832)) 0x0111 p.1
      | none => none)),
    (queueDepth T m.img.depths).map (fun t => (0x0112, t))]
/-- A window entry's target range meets a working tile (R139). -/
def Mod.winOnWorking (m : Mod) (w : Nat) : Bool :=
  let a := fld w 47 0
  let n := 32 * (fld w 72 48 + 1)
  inSp a n && (List.range ((a + n - 1 - spBase) / 0x400000 + 1 - (a - spBase) / 0x400000)).any (fun k => !m.resident ((a - spBase) / 0x400000 + k))
/-- A group entry breaks Table 12.16 by itself. -/
def Mod.groupBad (m : Mod) (g : Nat) : Bool :=
  let n := fld g 20 10
  let l := fld g 111 64
  let ms := if l = 0 then (List.range n).map (fun i => (fld g 9 0 + i * fld g 30 21) % 1024) else m.listOf g
  n == 0 || decide (1024 < n) || fld g 30 21 == 0 || decide (1 < fld g 33 31) || (l != 0 && (l % 2 != 0 || !inHbm l (2 * n)))
    || decide ((nub ms).length < ms.length)
/-- Listed members up to and with a group. -/
def Mod.listedTo (m : Mod) (k : Nat) : Nat := ((m.ers.group.filter (fun p => decide (p.1 ≤ k) && fld p.2 111 64 != 0)).map (fun p => fld p.2 20 10)).sum
/-- The route, window and group tables (R328, R139). -/
def Mod.ersBad (m : Mod) : Bad :=
  firstBad (
    m.ers.route.map (fun p => badIf (routeBad p.2) 0x0118 p.1) ++
    m.ers.win.map (fun p => firstBad [badIf (winBad p.2) 0x0119 p.1, badIf (m.winOnWorking p.2) 0x010C p.1]) ++
    m.ers.group.map (fun p => badIf (m.groupBad p.2 || decide (32768 < m.listedTo p.1)) 0x011A p.1))
/-- Two ranges overlap. -/
def meets (a n b k : Nat) : Bool := decide (a < b + k) && decide (b < a + n)
/-- Hold areas of an entry: HOLD or MAT_IN, and MOM_HOLD. -/
def holdsOf (x : Nat) : List Nat := if gMatrix x then [gHold x, gMom x] else if gCheck x = 0 then [] else [gHold x]
/-- A Groomer record, its entries in order, each followed by its rule record (R295, R266). -/
def Mod.groomerBad (m : Mod) (d : Nat) : Bad :=
  let r := m.gRec d
  let n := fld r 79 64
  let sched := fld r 47 0
  let es := (List.range n).map (fun e => (m.gEntry d e, e))
  let t0 := fld r 87 80
  let t1 := fld r 95 88
  let onDie := inSpOf d sched (128 * n) || (inHbm sched (128 * n) && decide (sched / 0x004800000000 = d) && decide ((sched + 128 * n - 1) / 0x004800000000 = d))
  let winBad' (t : Nat) : Bool := decide (71 < t) || !m.resident (72 * d + t) || m.img.allocs.any (fun a => alMt a == 72 * d + t)
  let reserved := gRecReserved r || decide (1 < fld r 103 96)
  if n = 0 then badIf reserved 0x0113 0
  else firstBad ([
    badIf (sched % 128 != 0 || !onDie || decide (4096 < n) || reserved) 0x0113 0,
    badIf (winBad' t0 || winBad' t1 || t0 == t1) 0x0117 0] ++
    es.map (fun p =>
      let x := p.1
      let prev := es.take p.2
      let near := prev.filter (fun q => decide (p.2 ≤ q.2 + 4))
      let e := entryErr m.resident d x
      let twice := prev.any (fun q => meets (gState x) (256 * gBlocks x) (gState q.1) (256 * gBlocks q.1))
      let hold := near.any (fun q => (holdsOf x).any (fun a => (holdsOf q.1).any (fun b => meets a (4 * gN x) b (4 * gN q.1))))
      firstBad [badIf (e == 0x0113) 0x0113 p.2, badIf (e == 0x0114 || twice) 0x0114 p.2, badIf (e != 0 || hold) 0x0116 p.2,
        (let c := ruleErr m.rdn d (gRule x) (gMatrix x); badIf (c != 0) c p.2)]))
/-- Every activation check, in the order of R225, over the staged module. -/
def Mod.activationBad (m : Mod) : Bad :=
  firstBad ([m.globalBad, m.mapBad, m.regionBad, m.slidesBad, m.slotsBad, m.graphBadAll, m.ersBad] ++ [0, 1, 2, 3].map m.groomerBad)

end Sys2Proof.Machine
end

