-- ==== Sys2Proof/Machine/Load.lean ====
section
/-! DEFINITION. The load, activation and the start gate (R221, R297, R330 to R355, R365). -/

namespace Sys2Proof.Machine

def Mod.ldMap (m : Mod) (f : Load → Load) : Mod := { m with ld := f m.ld }
/-- GLB event bits: 0 ACTIVATED, 1 STARTED, 2 ATTEMPT_FAILED, 3 WARM_DONE (Table 14.5). -/
def Mod.glbEvent (m : Mod) (bit : Nat) : Mod := m.raiseEv evGlb (2 ^ bit)
/-- Drop what an attempt has read. -/
def Load.restart (l : Load) : Load :=
  { l with phase := 1, seg := 0, hdr := [], key := [], stream := [], pos := 0, recs := [], high := 0, dataTiles := [] }
/-- The loader starts from the header with the attempt count at 0; DONE_N is driven low; no image is active and the contexts of the old one
are lost (R345, R347, R349, R352). FAULT_N stays low while a fatal fault is contained (R409). -/
def Mod.startLoad (m : Mod) : Mod :=
  { m with ld := { m.ld.restart with attempt := 0, active := false, started := false, stopped := false },
           pw := { m.pw with doneLow := true, faultLow := m.mon.fltState != 0 && m.pw.warm.isNone } }
/-- Whether a code starts a new attempt (Table 13.15). -/
def retried (code : Nat) : Bool := decide (0x0C01 ≤ code) && decide (code ≤ 0x0C08)
/-- An attempt fails: the status, ALERT_N and ATTEMPT_FAILED; a new attempt, or LOAD_FAILED, in which every port is down (R348 to R350). -/
def Mod.attemptFail (m : Mod) (code detail : Nat) : Mod :=
  let m1 := (m.ldMap (fun l => { l with code := code, detail := detail, attempt := l.attempt + 1 })).glbEvent 2
  let m2 : Mod := { m1 with pw := { m1.pw with alert := m1.pw.alert ||| 1 } }
  if retried code ∧ m.ld.attempt < 3 then m2.ldMap Load.restart
  else { m2.ldMap (fun l => { l.restart with phase := 7 }) with
    pw := { m2.pw with faultLow := true }, ers := { m2.ers with port := m2.ers.port.map (fun p => (p.1, { p.2 with st := 0, txq := [], retry := [] })) } }
/-- The loader works: no warm reset is in progress and no fatal fault has stopped the load (R345, R410). -/
def Mod.loads (m : Mod) (phase : Nat) : Bool := m.ld.phase == phase && m.pw.warm.isNone && !m.ld.stopped
/-- CFG_LOAD_STATUS (Table 13.16). -/
def Mod.loadStatus (m : Mod) : Nat :=
  m.ld.code % 65536 + 2 ^ 16 * (m.ld.phase % 16) + 2 ^ 20 * (m.ld.attempt % 8) + 2 ^ 23 * b2n m.pw.startMode
    + 2 ^ 24 * b2n (!m.pw.doneLow && !m.pw.lineLow)

/-- LOAD_HEADER: phase 1 ends (R332, R333, R347). -/
def execLoadHeader (s : State) : Host.Outcome State Fault Refusal :=
  .next (s.on fun m =>
    if !m.loads 1 then m
    else match s.nv.headerBad with
      | some (code, detail) => m.attemptFail code detail
      | none =>
        let n := hSeg (leNat (s.nv.bytes 0 256))
        m.ldMap (fun l => { l with phase := 2, hdr := s.nv.bytes 0 (512 + 64 * n),
                                   key := hkdf384 (Config.rootKey ++ s.nv.bytes 40 32) (segInfo 0) }))

/-- The stream is whole: END is there and the length is PLAIN_LEN, with the required records (R338, R339). -/
def Mod.streamEnd (m : Mod) (i : Nat) : Mod :=
  let l := m.ld
  if !l.recs.any (fun r => r.typ == 0) then m.attemptFail 0x0C08 i
  else if l.stream.length ≠ hPlain (leNat (l.hdr.take 256)) ∨ (recsOf l.recs 1).isEmpty ∨ (recsOf l.recs 3).isEmpty then
    m.attemptFail 0x0C09 l.stream.length
  else m.ldMap (fun l => { l with phase := 3 })
/-- Plaintext is decrypted into the staging area (R346). -/
def Mod.stagePlain (m : Mod) (o : Nat) (bs : List Byte) : Mod := { m with mem := mwrite 0 m.mem (0x0047F0000000 + o) bs }
/-- Segment i as its 65,536 stored bytes (R334, R335, R337, R338). -/
def Mod.segment (m : Mod) (i : Nat) (bs : List Byte) : Mod :=
  let l := m.ld
  let nseg := hSeg (leNat (l.hdr.take 256))
  let head := bs.take 16
  let h := leNat head
  let len := fld h 63 32
  if bs.all (fun b => b == 0xFF) then m.attemptFail 0x0C08 i
  else if sha384 bs ≠ (l.hdr.drop (512 + 64 * i)).take 48 then m.attemptFail 0x0C06 i
  else if fld h 31 0 ≠ i ∨ len = 0 ∨ 65504 < len ∨ fld h 127 64 ≠ 0 then m.attemptFail 0x0C01 i
  else match gcmOpen l.key (natLE 12 i) head ((bs.drop 16).take 65504) (bs.drop 65520) with
    | none => m.attemptFail 0x0C07 i
    | some plain =>
      let s0 := l.stream.length
      let S := l.stream ++ plain.take len
      let m := m.stagePlain s0 (plain.take len)
      if (plain.drop len).any (fun b => b != 0) then m.attemptFail 0x0C09 S.length
      else match parseRecs S s0 S.length (S.length + 1) l.pos l.recs with
        | .error p => m.attemptFail 0x0C09 p
        | .ok (recs, pos) =>
          let mat := match (recs.drop l.recs.length).getLast? with | some r => if r.typ = 16 then r.body else [] | none => []
          let m1 := m.ldMap (fun l => { l with seg := i + 1, stream := S, pos := pos, recs := recs,
                                               key := hkdf384 (l.key ++ mat) (segInfo (i + 1)) })
          if i + 1 = nseg then m1.streamEnd i else m1
/-- LOAD_SEGMENT: the next segment, once the HBM of CD[0] is ready (R335, R426). -/
def execLoadSegment (s : State) : Host.Outcome State Fault Refusal :=
  .next (s.on fun m =>
    if !m.loads 2 || !m.pw.hbmReady then m
    else m.segment m.ld.seg (s.nv.bytes (flashSeg (hSeg (leNat (m.ld.hdr.take 256))) m.ld.seg) 65536))

/-! Phase 3. -/

/-- A DEVICE_DATA target is allowed: HBM, LPDDR-5X or one resident tile, outside the staging area (R344, R346). -/
def Mod.dataOk (z : Mod) (r : ImgRec) : Bool :=
  let n := r.body.length
  let a := r.target
  (inHbm a n || inLp a n || (inOneTile a n && z.resident ((a - spBase) / 0x400000))) && !(decide (a < 0x004800000000) && decide (0x0047F0000000 < a + n))
/-- Die a record targets. -/
def ImgRec.die (r : ImgRec) : List Nat := ((targetOf r.target).die.toList ++ (targetOf (r.target + r.body.length - 1)).die.toList)
/-- The targeted dies are raised, and their memory tiles zeroed (R344). -/
def Mod.raiseForData (m : Mod) (rs : List ImgRec) : Mod :=
  (nub (rs.flatMap ImgRec.die)).foldl (fun m d =>
    let m1 := m.dput d { m.die d with st := Nat.max 1 (m.die d).st, entering := none, waking := none }
    if d < 4 then m1.zeroTiles d else m1) m
/-- Copy DEVICE_DATA records in order up to one whose target is not allowed: the position of that one. -/
def Mod.copyData (z : Mod) : List ImgRec → Mod → Mod × Option Nat
  | [], m => (m, none)
  | r :: rs, m =>
    if !z.dataOk r then (m, some r.pos)
    else
      let n := r.body.length
      let ts := if inSp r.target n then
          (List.range ((r.target + n - 1 - spBase) / 0x400000 + 1 - (r.target - spBase) / 0x400000)).map (fun k => (r.target - spBase) / 0x400000 + k)
        else []
      copyData z rs ((m.wr r.target r.body).ldMap (fun l => { l with dataTiles := ts.foldl (fun a t => linsert t a) l.dataTiles }))
/-- LOAD_CHECKS: the DEVICE_DATA copies, then the activation checks (R221, R344). -/
def execLoadChecks (s : State) : Host.Outcome State Fault Refusal :=
  .next (s.on fun m =>
    if !m.loads 3 then m
    else
      let rs := recsOf m.ld.recs 15
      let c := Mod.copyData m.staged rs (m.raiseForData rs)
      match c.2 with
      | some p => c.1.attemptFail 0x0C0A p
      | none => match c.1.staged.activationBad with
        | some (code, detail) => c.1.attemptFail code detail
        | none => c.1.ldMap (fun l => { l with phase := 4 }))

/-! Phase 4 (R351). -/

/-- A GLOBAL value, with the value that 0 selects. -/
def orDefault (v d : Nat) : Nat := if v = 0 then d else v
/-- Steps 1 and 2, and the zeroing of step 3: tiles, image, and every memory tile that no DEVICE_DATA record wrote. -/
def Mod.applyTiles (m : Mod) : Mod :=
  let keep (a : Nat) : Bool := decide (a < spBase) || m.ld.dataTiles.contains ((a - spBase) / 0x400000)
  let m1 : Mod := { m.staged with mem := m.mem.filter (fun c => keep c.1) }
  { m1 with dies := m1.dies.map (fun x => { x with st := Nat.max 1 x.st, entering := none, waking := none, held := none, ctx := none, tenancy := none }) }
/-- Steps 4 and 5: the timeouts of the ERSAN record, cleared Groomer positions, the values of the GLOBAL record. -/
def Mod.applyRegs (m : Mod) : Mod :=
  let e := leNat (bodyOf m.ld.recs 8)
  let g := leNat (bodyOf m.ld.recs 1)
  let l : List (Nat × Nat) :=
    [(0x600010, orDefault (fld e 79 64) 20), (0x600014, orDefault (fld e 95 80) 50), (0x600018, orDefault (fld e 111 96) 50),
     (0x60001C, orDefault (fld e 119 112) 10), (0x100004, orDefault (fld g 159 128) 25), (0x100008, orDefault (fld g 191 160) 20),
     (0x10000C, orDefault (fld g 223 192) 5000)] ++ (List.range 4).flatMap (fun d => [(0x800000 + 16 * d, 0), (0x800004 + 16 * d, 0)])
  l.foldl (fun m p => m.rput p.1 p.2) { m with grm := [] }
/-- Step 6: the staging area is zeroed and the measurements start anew; the module is at the gate and DONE_N is released (R347, R352). -/
def Mod.atGate (m : Mod) : Mod :=
  let m1 := (m.zero 0x0047F0000000 0x10000000).ldMap (fun l => { l.restart with phase := 5, active := true, started := false })
  ({ m1 with pw := { m1.pw with doneLow := false }, icp := {}, safe := {}, sc := [], chan := [], chanFree := 16384, msgs := [], upd := [], far := [], parked := [] }).glbEvent 0
/-- ACTIVATION (R351). -/
def execActivation (s : State) : Host.Outcome State Fault Refusal :=
  .next (s.on fun m =>
    if !m.loads 4 then m
    else
      let m1 := m.applyTiles.applyRegs.atGate
      [0, 1, 2, 3].foldl (fun m d => if (m.die d).st = 1 then m.gateDie d else m) m1)

/-! The start gate (R352 to R355). -/

/-- Instructions that drive pins (R420; codes of log entry 40). -/
def drivesPins (ir : Nat) : Bool := [1, 4, 5, 6, 7].contains ir
/-- The instruction that acts: one that drives pins acts only while PERST_N is asserted and no image is active, and every code that is no
boundary-scan instruction acts as BYPASS (R420). -/
def Mod.scanIr (m : Mod) : Nat :=
  if 7 < m.pw.ir ∨ (drivesPins m.pw.ir ∧ !(m.pw.perst && !m.ld.active)) then 0 else m.pw.ir
/-- The module drives an open-drain output contact low: 0 WAKE_N, 1 DONE_N, 2 FAULT_N, 3 ALERT_N, 4 SMBDAT; HIGHZ releases every one, and
the other instructions that drive pins show the boundary register (R417, R420). Between transactions it does not hold SMBDAT. -/
def Mod.sinks (m : Mod) (k : Nat) : Bool :=
  if m.scanIr = 5 then false
  else if drivesPins m.scanIr then bitAt m.pw.scanLow k
  else match k with
    | 0 => m.pw.wakeLow
    | 1 => m.pw.doneLow
    | 2 => m.pw.faultLow
    | 3 => m.pw.alert != 0
    | _ => false
/-- DONE_N as the module sees it (R350). -/
def Mod.doneHigh (m : Mod) : Bool := !m.sinks 1 && !m.pw.lineLow
/-- One SAFECLK cycle: the time base counts, and a module at the gate samples DONE_N (R353, R388; log entry 6). -/
def Mod.tick (m : Mod) : Mod :=
  let m1 : Mod := { m with time := m.time + 1 }
  if m.ld.phase = 5 ∧ !m.pw.startMode then m1.ldMap (fun l => { l with high := if m.doneHigh then Nat.min 8 (l.high + 1) else 0 }) else m1
/-- MODULE_START: independent start, or the line seen high for 8 cycles (R353, R354); a contained module has no image to start (R409). -/
def execModuleStart (s : State) : Host.Outcome State Fault Refusal :=
  .next (s.on fun m =>
    if m.ld.phase = 5 ∧ m.mon.fltState = 0 ∧ (m.pw.startMode ∨ m.ld.high = 8) then (m.ldMap (fun l => { l with phase := 6, started := true, high := 0 })).glbEvent 1
    else m)
/-- DONE_N_LINE_CHANGE: the outside of the shared line; a low sample resets the count (R353). -/
def execDoneNLineChange (level : Bool) (s : State) : Host.Outcome State Fault Refusal :=
  .next (s.on fun m =>
    let m1 : Mod := { m with pw := { m.pw with lineLow := !level } }
    if level then m1 else m1.ldMap (fun l => { l with high := 0 }))

end Sys2Proof.Machine
end

