-- ==== Sys2Proof/Machine/Flash.lean ====
section
/-! DEFINITION. The attestation mailbox, the rollback floor and the flash behind BAR4 (R364 to R371, R379, R391). -/

namespace Sys2Proof.Machine

/-! The mailbox (R366, R367). -/

def Mod.mbMap (m : Mod) (f : Mbox → Mbox) : Mod := { m with mbox := f m.mbox }
/-- CFG_MBOX_LOCK. -/
def mbLock : Nat := 0x300010
/-- A write of CFG_MBOX_LOCK: a non-zero value takes the lock only while OWNER is 0 (R391). -/
def Mod.lockMbox (m : Mod) (v : Nat) : Mod :=
  if v % 65536 ≠ 0 ∧ m.rg mbLock = 0 then (m.rput mbLock (v % 65536)).mbMap (fun b => { b with cmdSeen := false }) else m
/-- MBOX_LOCK_BREAK: no CMD was written within 100 µs of taking (R366). -/
def execMboxLockBreak (s : State) : Host.Outcome State Fault Refusal :=
  .next (s.on fun m => if m.rg mbLock ≠ 0 ∧ !m.mbox.cmdSeen then (m.rput mbLock 0).raiseEv evCfg 4 else m)
/-- CMD = 0 releases the lock. -/
def Mod.mboxFree (m : Mod) : Mod := (m.rput mbLock 0).mbMap (fun b => { b with cmd := 0, state := 0, err := 0, resp := [] })
/-- CMD 1 or 2 starts a response, unless one is being produced. -/
def Mod.mboxAsk (m : Mod) (v : Nat) : Mod :=
  if m.mbox.state = 1 then m else m.mbMap (fun b => { b with cmd := v, state := 1, err := 0, resp := [], cmdSeen := true })
/-- A CMD outside Table 13.21: STATE 3 with MBOX_FORMAT. -/
def Mod.mboxBad (m : Mod) (v : Nat) : Mod := m.mbMap (fun b => { b with cmd := v, state := 3, err := 0x0E01, cmdSeen := true })
/-- A write of CMD. -/
def Mod.mboxCmd (m : Mod) (v : Nat) : Mod :=
  if v = 0 then m.mboxFree else if v = 1 ∨ v = 2 then m.mboxAsk v else m.mboxBad v
/-- A byte string cut or padded with zeros to n bytes. -/
def fit (n : Nat) (l : List Byte) : List Byte := (l ++ List.replicate n 0).take n
/-- Bytes 0 to 383 of the attestation report (Table 13.22). -/
def Mod.reportBody (m : Mod) (floor : Nat) : List Byte :=
  let a := m.ld.active
  natLE 4 0x5454414B ++ natLE 4 1 ++ natLE 4 0x1152 ++ natLE 8 Config.unitId ++ natLE 2 floor ++ natLE 2 (if a then m.img.sec else 0)
    ++ natLE 4 (if a then m.img.version else 0) ++ natLE 4 m.loadStatus ++ mread 0 m.mbox.nonce 0 48 ++ fit 48 Config.romHash
    ++ (if a then fit 48 m.img.mImage else List.replicate 48 0) ++ fit 48 m.img.partialM ++ natLE 8 m.img.nPartial ++ natLE 8 m.img.nCommit
    ++ natLE 8 m.time ++ List.replicate 8 0 ++ fit 96 Config.identityPub ++ List.replicate 32 0
/-- The 512-byte report (R367). -/
def Mod.report (m : Mod) (floor : Nat) : List Byte :=
  let b := m.reportBody floor
  b ++ fit 96 (Config.identitySign (sha384 b)) ++ List.replicate 32 0
/-- MBOX_REPORT_DONE: the command in hand ends with its response (R366, R367). -/
def execMboxReportDone (s : State) : Host.Outcome State Fault Refusal :=
  .next (s.on fun m =>
    if m.mbox.state ≠ 1 then m
    else m.mbMap (fun b => { b with state := 2, resp := if b.cmd = 1 then m.report s.nv.floor else Config.certificate.take 4096 }))

/-! The rollback floor (R368). -/

/-- The fuses blown up to the SEC_VERSION of the active image. -/
def NonVol.raised (nv : NonVol) (sec : Nat) : NonVol := { nv with blown := nv.blown + (Nat.min 64 sec - nv.floor) }
/-- RAISE of a guarded CFG_FLOOR_CMD: nothing changes with no active image or a SEC_VERSION not above the floor. -/
def State.raise (s : State) : State :=
  if s.m.ld.active ∧ s.nv.floor < s.m.img.sec then { s with nv := s.nv.raised s.m.img.sec } else s

/-! The flash (R369 to R371). -/

/-- An erase or program is in progress, or the write buffer is not empty (Table 14.8). -/
def NonVol.busy (nv : NonVol) : Bool := nv.erase.isSome || !nv.buf.isEmpty
/-- Flash writes and commands are accepted: unlocked, and no load reads the flash (R369). -/
def Mod.flashOpen (m : Mod) : Bool := bitAt (m.rg 0x300020) 0 && !((m.ld.phase == 1 || m.ld.phase == 2) && !m.ld.stopped)
/-- A use of RWP registers (R386). -/
def State.using (s : State) (offs : List Nat) (k : State → State) : State := if offs.all s.m.reg.sound then k s else s.on Mod.parityFault
/-- FLASH_REFUSED. -/
def Mod.flashRefused (m : Mod) : Mod := m.rput 0x300028 (m.rg 0x300028 ||| 2)
/-- FLASH_IDLE once BUSY has fallen. -/
def State.flashIdle (s : State) : State := if s.nv.busy then s else s.on (fun m => m.raiseEv evCfg 8)
/-- An erase command (R370). -/
def State.eraseCmd (s : State) (sector : Nat) : State :=
  s.using [0x300020] fun s =>
    if !s.m.flashOpen || decide (4094 < sector) || s.nv.busy then s.on Mod.flashRefused
    else { s with nv := { s.nv with erase := some sector } }
/-- FLASH_ERASE_DONE: the sector reads 0xFF (R370). -/
def execFlashEraseDone (s : State) : Host.Outcome State Fault Refusal :=
  .next (match s.nv.erase with
    | some k => ({ s with nv := { s.nv with flash := mclear s.nv.flash (65536 * k) 65536, erase := none } } : State).flashIdle
    | none => s)
/-- A write into the mailbox: byte 0 is CMD, bytes 0x40 to 0x6F are NONCE, and the rest is not written (Table 13.21). -/
def Mod.mboxWrite (m : Mod) (o : Nat) (data : List Byte) : Mod :=
  let l := data.zipIdx.filter (fun p => decide (64 ≤ o + p.2) && decide (o + p.2 < 112))
  let m1 := match data with
    | v :: _ => if o = 0 then m.mboxCmd v.toNat else m
    | [] => m
  if l.isEmpty then m1 else m1.mbMap (fun b => { b with nonce := l.foldl (fun n p => mset 0 n (o + p.2 - 64) p.1) b.nonce })
/-- One byte of the mailbox (Table 13.21). -/
def Mbox.byteAt (b : Mbox) (o : Nat) : Byte :=
  if o < 4 then nth 0 (natLE 4 b.cmd) o
  else if o < 8 then nth 0 (natLE 4 (b.state + 2 ^ 16 * b.err)) (o - 4)
  else if o < 12 then nth 0 (natLE 4 b.resp.length) (o - 8)
  else if 64 ≤ o ∧ o < 112 then mget 0 b.nonce (o - 64)
  else if 0x1000 ≤ o ∧ o < 0x2000 then nth 0 b.resp (o - 0x1000)
  else 0
/-- n bytes that a read of BAR4 returns: flash contents and the mailbox (R366, R369, R379). -/
def State.bar4Read (s : State) (off n : Nat) : List Byte :=
  (List.range n).map (fun i => if 0x0FFF0000 ≤ off + i then s.m.mbox.byteAt (off + i - 0x0FFF0000) else mget 0xFF s.nv.flash (off + i))
/-- A BAR4 write: the mailbox, or bytes for the write buffer of 4 KiB; the bytes that do not fit it (R366, R369, R370, R379). -/
def State.bar4Write (s : State) (off : Nat) (data : List Byte) : List Byte × State :=
  if 0x0FFF0000 ≤ off then ([], s.on (fun m => m.mboxWrite (off - 0x0FFF0000) data))
  else if !s.m.reg.sound 0x300020 then ([], s.on Mod.parityFault)
  else if !s.m.flashOpen then ([], s.on Mod.flashRefused)
  else
    let l := (data.zipIdx.map (fun p => (off + p.2, p.1))).filter (fun p => decide (p.1 < 0x0FFF0000))
    let k := 4096 - s.nv.buf.length
    ((l.drop k).map (fun p => p.2), { s with nv := { s.nv with buf := s.nv.buf ++ l.take k } })
/-- The bytes of the page that is programmed next: the oldest ones that lie in one page. -/
def NonVol.page (nv : NonVol) : List (Nat × Byte) :=
  match nv.buf with
  | [] => []
  | (a, _) :: _ => (nv.buf.takeWhile (fun p => p.1 / 256 == a / 256)).take 256
/-- Programming can only clear bits (R370). -/
def program (f : Mem) (l : List (Nat × Byte)) : Mem := l.foldl (fun f p => mset 0xFF f p.1 (mget 0xFF f p.1 &&& p.2)) f
/-- A reset or a loss of power ends the operation in progress: which bytes it reached is a free value, and the buffer is lost (R371). -/
def NonVol.cut (nv : NonVol) (fresh : Nat) : NonVol :=
  let hit (i : Nat) : Bool := Config.free (fresh + i) % 2 == 1
  let f := match nv.erase with
    | some k => nv.flash.filter (fun c => !(c.1 / 65536 == k && hit (c.1 % 65536)))
    | none => program nv.flash ((nv.page.zipIdx.filter (fun p => hit p.2)).map (fun p => p.1))
  { nv with flash := f, buf := [], erase := none }
/-- The same in the state, with the free values it draws. -/
def State.cutFlash (s : State) : State :=
  if s.nv.busy then { s with nv := s.nv.cut s.m.fresh, m := { s.m with fresh := s.m.fresh + 65536 } } else s

end Sys2Proof.Machine
end

