-- ==== Sys2Proof/Machine/Reset.lean ====
section
/-! DEFINITION. Resets, reload, power and the sideband lines (R291, R345, R374, R410, R417 to R432). -/

namespace Sys2Proof.Machine

def Mod.pwMap (m : Mod) (f : Pwr → Pwr) : Mod := { m with pw := f m.pw }

/-! Warm reset (R291, R430 to R432). -/

/-- A warm reset is requested: 0 PERST_N, 1 hot reset, 2 FLR of the PF, 3 SAFE OP 1. It joins one in progress; the Groomers stop admitting
blocks for the hold-off (R291, R430). -/
def Mod.warmRequest (m : Mod) (cause : Nat) : Mod :=
  let m1 := if cause = 0 then m.pwMap (fun p => { p with perst := true, link := 0 }) else m
  if m1.ld.phase = 0 ∨ m1.pw.warm.isSome then m1
  else
    -- containment has given a contained module its hold-off (R410)
    let off := m1.mon.fltState == 0
    let u := m1.grm.any (fun p => !p.2.stage.isEmpty)
    { m1 with pw := { m1.pw with warm := some cause, holdoff := off, used := off && u, due := !off },
              grm := m1.grm.map (fun p => (p.1, { p.2 with stopped := true })) }
/-- What a warm reset takes from the Ersan engines: collectives, accesses and posts; ports, routes and windows stay (Table 16.10). -/
def Ersan.warm (e : Ersan) : Ersan :=
  { e with txns := [], crossing := [], replies := [], coll := [], ready := [], dead := [], taken := [], stopped := [], notice := [], faultMid := 0, faultCode := 0 }
/-- Every M-core's work is broken off: the wide areas of its blocks hold nothing defined (R68). -/
def Mod.abandonAllWide (m : Mod) : Mod := m.tile.foldl (fun m p => m.abandonWide p.1) m
/-- S-cores and channels stop; nothing is written for the running commands (R431). -/
def Mod.stopAll (m0 : Mod) : Mod :=
  let m := m0.abandonAllWide
  { m with sc := m.sc.map (fun p => (p.1, { p.2 with running := false, block := .none, loads := [] })),
           tile := m.tile.map (fun p => (p.1, p.2.halt)), chan := [], chanFree := 16384, msgs := [],
           safe := { mirror := m.safe.mirror, lastTaken := m.safe.lastTaken }, ers := m.ers.warm, grm := [],
           icp := { m.icp with holder := none, breakOf := none, status := 0, requester := 0, op := 0, disc := [], lastC := 0 } }
/-- Compute dies that a warm reset brings to NAP: all, but for those whose rails have not been raised since power-on, which no image has
yet activated (R351, R426, R431; log entry 60). -/
def Mod.napSet (m : Mod) : List Nat :=
  [0, 1, 2, 3].filter (fun d => m.ld.active || m.mon.fltState != 0 || (m.die d).st != 0)
/-- The compute dies go to NAP (R431 step 6); their duty is back at its reset value, 16 (R8, Table 15.8). -/
def Mod.napDies (m : Mod) (ds : List Nat) : Mod :=
  ds.foldl (fun m d => m.dput d { m.die d with st := 1, entering := none, waking := none, held := none, ctx := none, duty := 16, cool := 0 }) m
/-- Their working tiles are zeroed (R431 step 5), and gate. -/
def Mod.zeroAll (m : Mod) (ds : List Nat) : Mod := ds.foldl (fun m d => (m.zeroWorking d).gateDie d) m
/-- The host interface after a warm reset: MSI-X state is as reset; a reset by PCIe takes configuration space with it, as the base
specification has it (log entries 60 and 92). -/
def HostIf.warm (h : HostIf) (pcie : Bool) : HostIf :=
  let h1 : HostIf := { h with msix := [], pba := [], refOpen := true }
  if pcie then { h1 with mps := 0, mrrs := 2, cto := 0, bars := [], cfg := [] } else h1
/-- A request completes while a warm reset ends its command: a breach of a tenancy has no effect (R140, R431). -/
def Mod.finishReq (m : Mod) (r : LineReq) : Mod :=
  let ok : Bool := match targetOf r.addr with | .sp mt => m.tenOk mt r.ten | _ => true
  if r.reads || !ok then m else m.bankWrite r.addr (m.reqBytes r)
/-- Requests that memories or receive engines have accepted complete, those that waited for a die among them (R431 step 2); an uncorrectable
word that one of them reads raises its fatal fault (R138, R404). -/
def Mod.finishAll (m : Mod) : Mod :=
  let m1 := m.wakeFar.wakeReqs
  let m2 := (m1.runBanks (fun m _ r => m.finishReq r) (fun _ => true) (fun _ _ => true)).applyAll (fun _ => true)
  let m3 := m2.far.foldl Mod.finishReq { m2 with far := [] }
  ({ m3 with parked := [] } : Mod).sendAcks
/-- Steps 2 to 6 of R431, the registers, and a load when no image is active (R345, R409, R411). -/
def Mod.warmBody (m : Mod) : Mod :=
  let ds := m.napSet
  let m1 := (((m.napDies ds).finishAll.switchAll [0, 1, 2, 3]).stopAll).zeroAll ds
  let m2 := if m1.ld.active then m1 else m1.startLoad
  let pcie := match m2.pw.warm with | some c => decide (c ≤ 2) | none => false
  let m3 := { m2 with reg := m2.reg.warm, mbox := {},
                      host := m2.host.warm pcie,
                      pw := { m2.pw with holdoff := false, due := false, capDuty := 16, capCool := 0, faultLow := false, wakeLow := false, d3 := if pcie then [] else m2.pw.d3 } }
  if m3.pw.used then m3.raiseEv evSafe 2 else m3
/-- A warm reset is requested; that of a contained module proceeds at once (R410). -/
def State.warmRequest (s : State) (cause : Nat) : State :=
  let s1 := s.on (fun m => m.warmRequest cause)
  if s.m.mon.fltState ≠ 0 ∧ s1.m.pw.due then s1.cutFlash.on Mod.warmBody else s1
/-- WARM_RESET by PERST_N, hot reset or an FLR of the PF (R431). -/
def execWarmReset (cause : Nat) (s : State) : Host.Outcome State Fault Refusal := .next (if cause ≤ 2 then s.warmRequest cause else s)
/-- WARM_RESET_END: 200 µs have passed and PERST_N is released; the containment record stays in WAS_CONTAINED (R414, R430, R431). -/
def execWarmResetEnd (s : State) : Host.Outcome State Fault Refusal :=
  .next (s.on fun m =>
    if m.pw.warm.isSome && !m.pw.holdoff && !m.pw.due && !m.pw.perst then
      let mon : Mon := { m.mon with fltState := if m.mon.fltState = 2 then 0 else m.mon.fltState }
      let pw : Pwr := { m.pw with warm := none, used := false }
      ({ m with pw := pw, mon := mon } : Mod).glbEvent 3
    else m)
/-- PERST_N_RELEASE: MID is sampled again; configuration requests are answered after a time of at most 100 ms, 2,500,000 SAFECLK cycles, a
free value, and end in retry status until then (R420, R432; log entry 99). -/
def execPerstNRelease (mid : Nat) (s : State) : Host.Outcome State Fault Refusal :=
  .next (s.on fun m =>
    if m.pw.perst then
      let r := m.draw
      let m1 := r.2.pwMap (fun p => { p with perst := false, mid := mid % 1024 })
      { m1 with host := { m1.host with crsUntil := m1.time + r.1 % 2500001 } }
    else m)

/-! Reload (R345). -/

/-- Every running command is aborted with HOST_ABORT; nothing is dispatched meanwhile. -/
def Mod.abortRuns (m : Mod) : Mod :=
  (m.safe.ctx.filter (fun p => p.2.run.isSome)).foldl (fun m p =>
    match m.run? p.1 with
    | some r =>
      let r1 : Run := if r.outcome = 2 then r else { r with outcome := 2, reason := 0x0801, detail := 0, tFix := m.time }
      m.resolve p.1 r.j 2 r1.reason r1.detail r.cr (some r1)
    | none => m) (m.ldMap (fun l => { l with started := false }))
/-- The reload: commands abort, the old image and its contexts are lost, the flash is locked (R369, Table 16.10), and the load starts. -/
def Mod.reload (m : Mod) : Mod :=
  let m1 := if m.ld.active then m.abortRuns.stopAll else m.stopAll
  let dies := m1.dies.map (fun (x : Die) => ({ x with ctx := none, tenancy := none } : Die))
  let m2 : Mod := { m1 with safe := {}, icp := {}, ers := {}, upd := [], far := [], parked := [], dies := dies }
  (m2.rput 0x300020 0).startLoad
/-- A reload ends an operation of the flash, as every reset does (R371, Table 16.10). -/
def State.reload (s : State) : State := s.cutFlash.on Mod.reload

/-- VF_FLR: an FLR of VF t acts on its tenancy alone (R374). -/
def execVfFlr (t : Nat) (s : State) : Host.Outcome State Fault Refusal :=
  .next (s.on fun m =>
    if t = 0 ∨ 64 ≤ t ∨ m.ld.phase = 0 then m
    else
      let cs := (m.safe.ctx.filter (fun p => tenOf p.1 == t)).map (fun p => p.1)
      let m1 := cs.foldl (fun m c => (m.fixAbort c 0x0801 0).cxMap c (fun x => { x with ready := false, next := none })) m
      let out (c : Nat) : Bool := tenOf c != t
      { m1 with safe := { m1.safe with reads := m1.safe.reads.filter out, recs := m1.safe.recs.filter out },
                host := { m1.host with msix := m1.host.msix.filter (fun p => p.1 / 65536 != t), pba := m1.host.pba.filter (fun p => p.1 != t),
                                       cfg := m1.host.cfg.filter (fun p => p.1 / 4096 != t) },
                pw := { m1.pw with d3 := m1.pw.d3.filter (fun f => f != t) } })

/-! Power (R418, R420, R426, R427). -/

/-- Power-on reset begins: the time base starts, everything is at its reset value (R388, R430). Lines that others drive stay. -/
def Mod.porStart (m : Mod) : Mod :=
  { Mod.reset with hmem := m.hmem, fresh := m.fresh, mem := m.mem, pw := { on := 1, perst := m.pw.perst, lineLow := m.pw.lineLow } }
/-- PWRGD low for 250,000 SAFECLK cycles is 10 ms (R426). -/
def lowHold : Nat := 250000
/-- POWER_ON: PWRGD rises; after a shorter low the rise is held (R426). -/
def execPowerOn (s : State) : Host.Outcome State Fault Refusal :=
  .next (s.on fun m =>
    if m.pw.on ≠ 0 then m else if m.time < lowHold then m.pwMap (fun p => { p with riseHeld := true }) else m.porStart)
/-- PWRGD_LOW_HOLD_END (R426). -/
def execPwrgdLowHoldEnd (s : State) : Host.Outcome State Fault Refusal :=
  .next (s.on fun m => if m.pw.on = 0 ∧ m.pw.riseHeld then m.porStart else m)
/-- POR_END: straps are sampled, DONE_N is driven low and the load begins (R352, R354, R420, R426). -/
def execPorEnd (startMode : Bool) (mid : Nat) (s : State) : Host.Outcome State Fault Refusal :=
  .next (s.on fun m =>
    if m.pw.on = 1 then (m.pwMap (fun p => { p with on := 2, startMode := startMode, mid := mid % 1024, midPor := mid % 1024 })).startLoad else m)
/-- HBM_READY: the rails of CD[0] and IOD[0] are up and the HBM of CD[0] can stage segments (R426; log entry 41). -/
def execHbmReady (s : State) : Host.Outcome State Fault Refusal :=
  .next (s.on fun m =>
    if m.pw.on = 2 ∧ !m.pw.hbmReady then
      [0, 4].foldl (fun m d => m.dput d { m.die d with st := Nat.max 1 (m.die d).st }) (m.pwMap (fun p => { p with hbmReady := true }))
    else m)
/-- The module as a loss of power leaves it: outputs released, rails off, device memory gone (R427, Table 16.10). -/
def Mod.powerOff (m : Mod) : Mod :=
  { Mod.reset with hmem := m.hmem, fresh := m.fresh, pw := { on := 0, perst := m.pw.perst, lineLow := m.pw.lineLow } }
/-- POWER_LOSS: no hold-off; an operation of the flash ends (R371, R427). A fall of PWRGD during a held rise starts the low anew. -/
def execPowerLoss (s : State) : Host.Outcome State Fault Refusal := .next (s.cutFlash.on Mod.powerOff)

/-! Sideband and link (R374, R417, R420). -/

/-- A function enters D3hot or leaves it (R374, R417). -/
def Mod.powerState (m : Mod) (fn : Nat) (enter : Bool) : Mod :=
  (m.pwMap (fun p => { p with d3 := if enter then linsert fn p.d3 else p.d3.filter (fun f => f != fn) })).flushMsix
/-- PCIE_LINK_STATE: 0 down, 1 L0, 2 L1, 3 another, with the rate and width it has trained to (Table 14.1); held messages leave when they
can and WAKE_N follows (R417). -/
def execPcieLinkState (l : LinkAs) (s : State) : Host.Outcome State Fault Refusal :=
  .next (s.on fun m =>
    if m.ld.phase = 0 ∨ m.pw.perst then m
    else ({ (m.pwMap (fun p => { p with link := l.st % 4 })) with host := { m.host with gen7 := l.gen7, width := l.width } } : Mod).flushMsix)
/-- D3HOT: BAR decoding of a function stops or resumes, and its messages wait or leave (R374, R417). -/
def execD3hot (fn : Nat) (enter : Bool) (s : State) : Host.Outcome State Fault Refusal :=
  .next (s.on fun m =>
    if m.ld.phase = 0 ∨ 64 ≤ fn then m
    else m.powerState fn enter)
/-- BOUNDARY_SCAN: the port updates its instruction and its boundary register, and may shift. TDO shows the bypass bit under BYPASS and a
free value otherwise, since the spec does not give the boundary register's cells; it is released while nothing shifts (R417, R418, R420;
log entry 40). -/
def execBoundaryScan (x : ScanAs) (s : State) : Host.Outcome State Fault Refusal :=
  .next (s.on fun m =>
    if m.ld.phase = 0 then m
    else
      let m1 := m.pwMap (fun p => { p with ir := x.ir, scanLow := x.low, tdo := none })
      match x.tdi with
      | none => m1
      | some b =>
        if m1.scanIr = 0 then m1.pwMap (fun p => { p with tdo := some p.bypass, bypass := b })
        else let r := m1.draw; r.2.pwMap (fun p => { p with tdo := some (r.1 % 2 == 1) }))

end Sys2Proof.Machine
end

