-- ==== Sys2Proof/Machine/Env.lean ====
section
/-! DEFINITION. Fatal faults from outside, sensors, throttling and SMBus (R373, R386, R405 to R415, R421 to R424, R429, R433, R434). -/

namespace Sys2Proof.Machine

/-- Power-on reset has ended: the safelight, the fault sequencer and SMBus work (R407, R421). -/
def Mod.porDone (m : Mod) : Bool := m.ld.phase != 0

/-! Fatal faults (R373, R386, R406, R429). -/

/-- FATAL_FAULT: a fault of Table 15.5 is detected. -/
def execFatalFault (code unit tile addr : Nat) (s : State) : Host.Outcome State Fault Refusal :=
  .next (s.on fun m => if m.porDone && decide (0x0F01 ≤ code) && decide (code ≤ 0x0F0E) then m.fatal code unit tile addr else m)
/-- HOST_COMPLETION_TIMEOUT: HOST_LINK (R373, R406). Only an active image reads host memory. -/
def execHostCompletionTimeout (s : State) : Host.Outcome State Fault Refusal :=
  .next (s.on fun m => if m.ld.active then m.fatal 0x0F0A 7 0x3FF 0 else m)
/-- SAFE_WATCHDOG (R406); the safelight counts as IOD[0] (log entry 44). -/
def execSafeWatchdog (s : State) : Host.Outcome State Fault Refusal :=
  .next (s.on fun m => if m.porDone then m.fatal 0x0F0B 4 0x3FF 0 else m)
/-- PARITY_SCAN: a parity that disagrees is CFG_PARITY (R386). -/
def execParityScan (s : State) : Host.Outcome State Fault Refusal :=
  .next (s.on fun m => if m.porDone && !m.reg.parityOk then m.parityFault else m)
/-- CLOCK_LOSS of a board or die clock at the unit it belongs to. -/
def Mod.clockFault (m : Mod) (which unit : Nat) : Mod :=
  (m.pwMap (fun p => { p with clkLost := linsert which p.clkLost })).fatal 0x0F0C unit 0x3FF 0
/-- PCIE_CLK is lost: the link goes down and HOST_LINK follows (R429). -/
def Mod.pcieClkLost (m : Mod) : Mod := ((m.pwMap (fun p => { p with link := 0 })).clockFault 1 6).fatal 0x0F0A 7 0x3FF 0
/-- An Ersan reference is lost: the ports of its I/O die go down first (R325, R429). -/
def Mod.erefLost (m : Mod) (x : Nat) : Mod :=
  (((List.range 16).map (fun i => 16 * x + i)).foldl (fun m p => m.portDown p 1) m).clockFault (2 + x) (4 + x)
/-- A port of the I/O die is to be up (Table 16.9). -/
def Mod.erefNeeded (m : Mod) (x : Nat) : Bool := m.ld.active && (List.range 16).any (fun i => m.portOn (16 * x + i))
/-- CLOCK_LOSS: 0 SAFECLK_IN, 1 PCIE_CLK, 2 EREF_A, 3 EREF_B, 4 + u the PLL of die u; a clock that Table 16.9 does not require is not
missed (R406, R428, R429). -/
def execClockLoss (which : Nat) (s : State) : Host.Outcome State Fault Refusal :=
  .next (s.on fun m =>
    if !m.porDone then m
    else if which = 0 then m.clockFault 0 6
    else if which = 1 then (if m.pw.perst then m else m.pcieClkLost)
    else if which < 4 then (if m.erefNeeded (which - 2) then m.erefLost (which - 2) else m)
    else if which < 10 then m.clockFault which (which - 4)
    else m)

/-! Temperature, rails and power (R412, R413, R423, R424, R433, R434). -/

/-- An environment event: a bit of ENV_STATUS and the reason of ALERT_N (R422, R423). -/
def Mod.envEvent (m : Mod) (bit : Nat) : Mod := m.pwMap (fun p => { p with env := p.env ||| 2 ^ bit, alert := p.alert ||| 4 })
/-- Latest reading of sensor s of die u; sensors 8 to 10 are IOD[0]'s (R434). -/
def Mod.temp (m : Mod) (u s : Nat) : Option Nat :=
  if s < 8 then some (tget 0 m.pw.temps (8 * u + s)) else if u = 4 ∧ s < 11 then some (tget 0 m.pw.temps (40 + s)) else none
/-- FLT_TEMP[u]: the hottest junction sensor (R412). -/
def Mod.hottest (m : Mod) (u : Nat) : Nat := ((List.range 8).map (fun s => tget 0 m.pw.temps (8 * u + s))).foldl Nat.max 0
/-- Issue duty of CD[d]: the lower of its thermal and cap duties (R424). -/
def Mod.duty (m : Mod) (d : Nat) : Nat := Nat.min (m.die d).duty m.pw.capDuty
/-- THROTTLE when the duty of a die fell below 16/16 (Table 15.8). -/
def Mod.throttled (old m : Mod) : Mod :=
  if [0, 1, 2, 3].any (fun d => decide (m.duty d < 16) && old.duty d == 16) then (m.raiseEv evFlt 8).envEvent 1 else m
/-- TEMP_WARN once for each crossing (R412). -/
def Mod.warmDie (m : Mod) (u : Nat) : Mod :=
  let hot := decide (4 * m.rg 0x500068 ≤ m.hottest u)
  let m1 := m.dput u { m.die u with warned := hot }
  if hot && !(m.die u).warned then (m1.raiseEv evFlt 4).envEvent 0 else m1
/-- Thermal duty of a compute die after one 100 µs interval (R412). -/
def Die.heat (x : Die) (hot thr : Nat) : Die :=
  if thr ≤ hot then { x with duty := Nat.max 4 (x.duty - 1), cool := 0 }
  else if hot + 12 ≤ thr then
    (if x.cool = 9 then { x with duty := Nat.min 16 (x.duty + 1), cool := 0 } else { x with cool := x.cool + 1 })
  else { x with cool := 0 }
def Mod.heatDie (m : Mod) (d : Nat) : Mod := m.dput d ((m.die d).heat (m.hottest d) (4 * m.rg 0x50006C))
/-- A die sensor at 110 °C or above (R412). -/
def Mod.tripDie (m : Mod) (u : Nat) : Mod := if 440 ≤ m.hottest u then m.fatal 0x0F0D u 0x3FF 0 else m
/-- THERMAL_TICK: new readings, 8 a die and then the three board sensors (R412, R434). -/
def Mod.thermal (m : Mod) (temps : List Nat) : Mod :=
  let l := (temps.take 51).zipIdx
  let m1 := m.pwMap (fun p => { p with temps := l.foldl (fun t x => tset t x.2 (x.1 % 4096)) p.temps })
  let m2 := [0, 1, 2, 3, 4, 5].foldl Mod.warmDie m1
  let m3 := m2.throttled ([0, 1, 2, 3].foldl Mod.heatDie m2)
  let m4 := if 160 < (m3.temp 4 8).getD 0 then m3.envEvent 4 else m3
  [0, 1, 2, 3, 4, 5].foldl Mod.tripDie m4
/-- THERMAL_TICK (R412). -/
def execThermalTick (temps : List Nat) (s : State) : Host.Outcome State Fault Refusal :=
  .next (s.on fun m => if m.porDone then m.using [0x500068, 0x50006C] (fun m => m.thermal temps) else m)

/-- Rails of Table 16.6: least and greatest voltage in units of 0.1 mV, warning current and limit in mA, unit of Table 15.8. -/
def rails : List (Nat × Nat × Nat × Nat × Nat) :=
  let cd (u : Nat) : Nat × Nat × Nat × Nat × Nat := (7125, 7875, 680000, 760000, u)
  let io (u : Nat) : Nat × Nat × Nat × Nat × Nat := (7125, 7875, 180000, 220000, u)
  [(400000, 600000, 52000, 60000, 6), cd 0, cd 1, cd 2, cd 3, io 4, io 5, (10450, 11550, 240000, 280000, 6),
   (9975, 11025, 90000, 110000, 6), (8550, 9450, 150000, 180000, 6), (7600, 8400, 3000, 5000, 6)]
/-- A rail has been raised (R426, R351; log entry 45). -/
def Mod.railUp (m : Mod) (r : Nat) : Bool :=
  r == 0 || r == 10 || (m.pw.hbmReady && (r == 1 || r == 5 || decide (7 ≤ r) || m.ld.active || (m.die (r - 1)).st != 0))
/-- One rail of a sample: RAIL_WARN after 100 samples above the warning current, RAIL_FAULT outside the limits (R413, R433). -/
def Mod.rail (m : Mod) (r mv ma : Nat) : Mod :=
  let x := nth (0, 0, 0, 0, 6) rails r
  let hot := if x.2.2.1 < ma then Nat.min 101 (tget 0 m.pw.railOver r + 1) else 0
  let m1 := m.pwMap (fun p => { p with railMv := tset p.railMv r mv, railMa := tset p.railMa r ma, railOver := tset p.railOver r hot })
  let m2 := if hot = 100 then (m1.raiseEv evFlt 16).envEvent 2 else m1
  if m2.railUp r && (decide (10 * mv < x.1) || decide (x.2.1 < 10 * mv) || decide (x.2.2.2.1 < ma)) then m2.fatal 0x0F0E x.2.2.2.2 0x3FF 0 else m2
/-- RAIL_SAMPLE: voltages and currents of rails 0 to 10 (R413). -/
def execRailSample (mv ma : List Nat) (s : State) : Host.Outcome State Fault Refusal :=
  .next (s.on fun m => if m.porDone then ((mv.zip ma).take 11).zipIdx.foldl (fun m x => m.rail x.2 x.1.1 x.1.2) m else m)

/-- Cap duty after one 100 µs interval; none where the cap is not met at 4/16 (R424). -/
def Pwr.capStep (p : Pwr) : Pwr × Bool :=
  if p.cap = 0 then ({ p with capDuty := 16, capCool := 0 }, false)
  else if p.cap < p.watts then ({ p with capDuty := Nat.max 4 (p.capDuty - 1), capCool := 0 }, p.capDuty == 4)
  else if 100 * p.watts ≤ 95 * p.cap then
    (if p.capCool = 9 then ({ p with capDuty := Nat.min 16 (p.capDuty + 1), capCool := 0 }, false)
     else ({ p with capCool := p.capCool + 1 }, false))
  else ({ p with capCool := 0 }, false)
/-- POWER_CAP_TICK: the 1 ms average of input power is compared with the cap (R424). -/
def execPowerCapTick (watts : Nat) (s : State) : Host.Outcome State Fault Refusal :=
  .next (s.on fun m =>
    if !m.porDone then m
    else
      let r := ({ m.pw with watts := watts % 65536 } : Pwr).capStep
      let m1 := m.throttled ({ m with pw := r.1 } : Mod)
      if r.2 then m1.envEvent 3 else m1)

/-! SMBus (R421 to R424). -/

/-- The port's 7-bit address, from the straps latched at power-on reset (R420, R421). -/
def Mod.smbAddr (m : Mod) : Nat := 0x58 + m.pw.midPor % 8
/-- Packet error code of SMBus: CRC-8, polynomial 0x07, over every byte of the transaction (R421; PRESUMED, the SMBus specification's; log
entry 99). -/
def crc8 (l : List Nat) : Nat :=
  l.foldl (fun c b => (List.range 8).foldl (fun c _ => if 128 ≤ c then (2 * c) % 256 ^^^ 7 else 2 * c) (c ^^^ b)) 0
/-- The reply of a read command, a block read with its count, and the code that ends it (R421, R422). -/
def Mod.smb (m : Mod) (code : Nat) (block : Bool) (l : List Byte) : Mod :=
  let a := 2 * m.smbAddr
  { m with host := { m.host with smb := l, smbPec := crc8 ([a, code, a + 1] ++ (if block then [l.length] else []) ++ l.map (·.toNat)) } }
/-- Command codes of Table 16.4. -/
def smbCodes : List Nat := [0x01, 0x02, 0x03, 0x04, 0x10, 0x11, 0x12, 0x13, 0x14, 0x20]
/-- The port acknowledges an address and a command code: its own address from the end of power-on reset, and the listed codes (R421). No row
of the command table carries another code. -/
def Mod.smbAcks (m : Mod) (addr code : Nat) : Bool := m.porDone && addr == m.smbAddr && smbCodes.contains code
/-- What the port answers to the alert response address: its own address while it asserts ALERT_N (R421). -/
def Mod.alertAnswer (m : Mod) : Option Nat := if m.porDone && m.sinks 3 then some m.smbAddr else none
/-- Clear a reason of ALERT_N: 0 load, 1 fault, 2 environment (R423). -/
def Mod.unalert (m : Mod) (bit : Nat) : Mod :=
  m.pwMap (fun p => { p with alert := if bitAt p.alert bit then p.alert - 2 ^ bit else p.alert })
/-- LOAD_STATUS (R422). -/
def execSmbLoadStatus (s : State) : Host.Outcome State Fault Refusal :=
  .next (s.on fun m => if m.porDone then (m.smb 0x01 true (natLE 4 m.loadStatus ++ natLE 4 m.ld.detail)).unalert 0 else m)
/-- FLT_STATE (Table 15.8). -/
def Mon.stateWord (x : Mon) : Nat := x.fltState + 4 * b2n x.was
/-- FAULT_STATUS (R422). -/
def execSmbFaultStatus (s : State) : Host.Outcome State Fault Refusal :=
  .next (s.on fun m =>
    if m.porDone then
      (m.smb 0x02 true (natLE 4 m.mon.stateWord ++ natLE 4 m.mon.first ++ natLE 8 m.mon.firstAddr ++ natLE 8 m.mon.firstTime
        ++ natLE 4 m.mon.fltCount)).unalert 1
    else m)
/-- GLB word 0x000, GLB_IMAGE_VERSION and GLB word 0x010 (Table 14.5). -/
def glbId : Nat := 0x1152 + 0x01 * 2 ^ 16
def Mod.imageVersion (m : Mod) : Nat := if m.ld.active then m.img.version else 0
def Mod.glbSec (m : Mod) (floor : Nat) : Nat := floor % 256 + 256 * (if m.ld.active then m.img.sec % 256 else 0)
/-- IDENTITY (R422). -/
def execSmbIdentity (s : State) : Host.Outcome State Fault Refusal :=
  .next (s.on fun m =>
    if m.porDone then m.smb 0x03 true (natLE 4 glbId ++ natLE 8 Config.unitId ++ natLE 4 m.imageVersion ++ natLE 4 (m.glbSec s.nv.floor)) else m)
/-- ENV_STATUS: clears on read (R422, R423). -/
def execSmbEnvStatus (s : State) : Host.Outcome State Fault Refusal :=
  .next (s.on fun m => if m.porDone then ((m.smb 0x04 false (natLE 1 m.pw.env)).pwMap (fun p => { p with env := 0 })).unalert 2 else m)
/-- TEMPERATURES (R422). -/
def execSmbTemperatures (s : State) : Host.Outcome State Fault Refusal :=
  .next (s.on fun m => if m.porDone then m.smb 0x10 true ([0, 1, 2, 3, 4, 5].flatMap (fun u => natLE 2 (m.hottest u))) else m)
/-- COOLANT (R422). -/
def execSmbCoolant (s : State) : Host.Outcome State Fault Refusal :=
  .next (s.on fun m => if m.porDone then m.smb 0x11 true ([8, 9, 10].flatMap (fun k => natLE 2 ((m.temp 4 k).getD 0))) else m)
/-- RAILS: millivolts and tenths of an ampere (R422). -/
def execSmbRails (s : State) : Host.Outcome State Fault Refusal :=
  .next (s.on fun m =>
    if m.porDone then m.smb 0x12 true ((List.range 11).flatMap (fun r => natLE 2 (tget 0 m.pw.railMv r) ++ natLE 2 (tget 0 m.pw.railMa r / 100))) else m)
/-- POWER (R422). -/
def execSmbPower (s : State) : Host.Outcome State Fault Refusal :=
  .next (s.on fun m => if m.porDone then m.smb 0x13 false (natLE 2 m.pw.watts) else m)
/-- THROTTLE (R422). -/
def execSmbThrottle (s : State) : Host.Outcome State Fault Refusal :=
  .next (s.on fun m => if m.porDone then m.smb 0x14 true ([0, 1, 2, 3].flatMap (fun d => natLE 1 (m.duty d))) else m)
/-- POWER_CAP read (R422). -/
def execSmbPowerCapRead (s : State) : Host.Outcome State Fault Refusal :=
  .next (s.on fun m => if m.porDone then m.smb 0x20 false (natLE 2 m.pw.cap) else m)
/-- A cap as stored (R424). -/
def capStored (v : Nat) : Nat := if v = 0 then 0 else Nat.min 2300 (Nat.max 600 v)
/-- The packet error code of a word written is right, or none was sent (R421). -/
def Mod.pecOk (m : Mod) (w : SmbWord) : Bool := w.pec.all (fun p => p == crc8 ([2 * m.smbAddr, 0x20] ++ (natLE 2 w.v).map (·.toNat)))
/-- POWER_CAP write; one with a wrong packet error code is discarded (R421, R424). -/
def execSmbPowerCapWrite (w : SmbWord) (s : State) : Host.Outcome State Fault Refusal :=
  .next (s.on fun m => if m.porDone ∧ m.pecOk w then m.pwMap (fun p => { p with cap := capStored (w.v % 65536) }) else m)

/-! The FLT commands (R414, R415). -/

/-- CLEAR of FLT: ignored while containing or contained (R414). -/
def Mod.fltClear (m : Mod) : Mod :=
  if m.mon.fltState ≠ 0 then m
  else { m with mon := { m.mon with was := false, first := 0x3FF * 2 ^ 19, firstAddr := 0, firstTime := 0, fltCount := 0 } }
/-- The address lies in the memory that KIND names (R415). -/
def injectable (kind a : Nat) : Bool :=
  match targetOf a with
  | .sp _ => kind == 1 || kind == 2
  | .hbm _ => kind == 3 || kind == 4
  | _ => false
/-- A write of FLT_INJECT: it marks the word, or is refused (R415). -/
def Mod.fltInject (m : Mod) (v : Nat) : Mod :=
  let a := m.rg 0x500084 + 2 ^ 32 * (m.rg 0x500088 % 65536)
  if fld v 31 16 = 0x5AFE ∧ injectable (v % 8) a then { m with mon := { m.mon with inject := some (v % 8, a / 8 * 8) } }
  else m.raiseEv evFlt 32

end Sys2Proof.Machine
end

