-- ==== Sys2Proof/Machine/Regs.lean ====
section
/-! DEFINITION. BAR0: values of registers, reads, writes, aliases, pairs and the meters' commands (R375, R380 to R394, R395 to R402,
R414, R415). -/

namespace Sys2Proof.Machine

/-! Values (Tables 14.5 to 14.11, 12.18, 15.3, 15.8). -/

/-- GLB registers. -/
def State.roGlb (s : State) : Nat → Option Nat
  | 0x0 => some glbId
  | 0x4 => some (fld Config.unitId 31 0)
  | 0x8 => some (fld Config.unitId 63 32)
  | 0xC => some s.m.imageVersion
  | 0x10 => some (s.m.glbSec s.nv.floor)
  | 0x14 => some (fld s.m.time 31 0)
  | 0x18 => some (fld s.m.time 63 32)
  | 0x30 => some (b2n s.m.pw.startMode + 2 * s.m.pw.mid)
  | _ => none
/-- SAFE_STATE: the module's state and two bits a die (Table 14.6, R18). -/
def Mod.powerWord (m : Mod) : Nat :=
  let l := m.dies.map (fun x => x.st)
  l.foldl Nat.max 0 + (l.zipIdx.map (fun p => p.1 * 4 ^ (p.2 + 1))).sum
/-- CTX registers. -/
def Mod.roCtx (m : Mod) (o : Nat) : Option Nat :=
  if o = 0 then some (fld m.img.ctxTable 31 0) else if o = 4 then some (fld m.img.ctxTable 47 32)
  else if o = 8 then some (fld m.img.bitmap 31 0) else if o = 12 then some (fld m.img.bitmap 47 32)
  else if 0x20 ≤ o ∧ o < 0x30 ∧ o % 4 = 0 then
    some (match (m.die ((o - 0x20) / 4)).ctx with | some c => c + 2 ^ 31 | none => 0)
  else if o = 0x40 then some m.chanFree
  else if o = 0x44 then some (m.safe.ctx.filter (fun p => p.2.ready)).length
  else if o = 0x208 then some (m.rg 0x200208 % 65536)
  else none
/-- A set of numbers as bits. -/
def bitSet (l : List Nat) : Nat := l.foldl (fun x i => x ||| 2 ^ i) 0
/-- CFG registers; BUSY stands beside FLASH_REFUSED. -/
def State.roCfg (s : State) (o : Nat) : Option Nat :=
  let i := s.m.icp
  match o with
  | 0x0 => some s.m.loadStatus
  | 0x4 => some s.m.ld.detail
  | 0x28 => some ((s.m.rg 0x300028 &&& 2) + b2n s.nv.busy)
  | 0x40 => some (i.status % 65536 + 2 ^ 16 * (i.requester % 128) + 2 ^ 23 * (i.op % 2))
  | 0x44 => some (Nat.min 65535 (i.disc.map (fun p => p.2)).sum)
  | 0x48 => some (match i.holder with | some n => n % 128 + 128 | none => 0)
  | 0x4C => some i.lastC
  | 0x50 => some (fld (bitSet (i.pend.map (fun p => p.1))) 31 0)
  | 0x54 => some (fld (bitSet (i.pend.map (fun p => p.1))) 63 32)
  | 0x58 => some (fld (bitSet (i.quiet.map (fun p => p.1))) 31 0)
  | 0x5C => some (fld (bitSet (i.quiet.map (fun p => p.1))) 63 32)
  | _ => none
/-- MON snapshot registers. -/
def Mod.roMon (m : Mod) (o : Nat) : Option Nat :=
  let x := m.mon.snap
  match o with
  | 0x20 => some (fld x.count 31 0)
  | 0x24 => some (fld x.count 47 32)
  | 0x28 => some (fld x.sum 31 0)
  | 0x2C => some (fld x.sum 63 32)
  | 0x30 => some x.min
  | 0x34 => some x.max
  | 0x38 => some x.missed
  | 0x3C => some (fld m.mon.snapSpan 31 0)
  | 0x40 => some (fld m.mon.snapSpan 47 32)
  | 0x44 => some m.mon.snapNo
  | _ => if 0x80 ≤ o ∧ o < 0x100 ∧ o % 4 = 0 then some (tget 0 x.bins ((o - 0x80) / 4)) else none
/-- FLT registers. -/
def Mod.roFlt (m : Mod) (o : Nat) : Option Nat :=
  match o with
  | 0x0 => some m.mon.stateWord
  | 0x4 => some m.mon.first
  | 0x8 => some (fld m.mon.firstAddr 31 0)
  | 0xC => some (fld m.mon.firstAddr 47 32)
  | 0x10 => some (fld m.mon.firstTime 31 0)
  | 0x14 => some (fld m.mon.firstTime 63 32)
  | 0x18 => some m.mon.fltCount
  | _ =>
    if o % 4 ≠ 0 then none
    else if 0x50 ≤ o ∧ o < 0x68 then some (m.hottest ((o - 0x50) / 4) % 4096)
    else if 0x70 ≤ o ∧ o < 0x80 then some (m.duty ((o - 0x70) / 4))
    else none
/-- ERS registers. -/
def Mod.roErs (m : Mod) (o : Nat) : Option Nat :=
  if o = 0 then some (m.ers.mid % 1024 + 2 ^ 10 * b2n m.ers.midSrc + 2 ^ 16 * (m.ers.domain % 65536))
  else if o = 0x28 then some (m.ers.faultMid % 1024 + 2 ^ 16 * (m.ers.faultCode % 65536))
  else if 0x100 ≤ o ∧ o < 0x180 ∧ o % 4 = 0 then
    let x := m.port ((o - 0x100) / 4)
    some (x.st % 4 + 4 * (x.partner % 1024) + 2 ^ 12 * (x.cause % 8))
  else none
/-- A computed register. -/
def State.ro (s : State) (off : Nat) : Option Nat :=
  let o := off % 2 ^ 20
  match off / 2 ^ 20 with
  | 0 => s.roGlb o
  | 1 => if o = 0 then some s.m.powerWord else none
  | 2 => s.m.roCtx o
  | 3 => s.roCfg o
  | 4 => s.m.roMon o
  | 5 => s.m.roFlt o
  | 6 => s.m.roErs o
  | _ => none
/-- Key under which a register is stored: the configuration registers of MON show the selected meter (R402). -/
def Mod.rkey (m : Mod) (off : Nat) : Nat := if 0x400004 ≤ off ∧ off ≤ 0x400018 then meterKey (m.rg 0x400000) off else off
/-- Value that a read finds in a register; WO and reserved bits read zero. -/
def State.val (s : State) (off : Nat) : Nat :=
  match s.ro off with
  | some v => v
  | none =>
    match regRow? off with
    | some r => s.m.rg (s.m.rkey off) &&& (r.rw ||| r.rwp ||| r.rc ||| r.keep)
    | none => 0

/-! Pairs (R385). -/

/-- Offset of an _LO register of a pair. -/
def isLo (off : Nat) : Bool :=
  [0x4, 0x14, 0x200000, 0x200008, 0x300050, 0x300058, 0x400028, 0x40003C, 0x500008, 0x500010, 0x500084, 0x700000, 0x700018].contains off
    || (decide (0x700108 ≤ off) && decide (off < 0x700300) && off % 8 == 0)
    || (decide (0x800000 ≤ off) && decide (off < 0x800040) && off % 16 == 0)
/-- Offset of an _HI register of a pair. -/
def isHi (off : Nat) : Bool := decide (4 ≤ off) && isLo (off - 4)
/-- A pair that host software writes. -/
def pairWritten (lo : Nat) : Bool := match regRow? lo with | some r => (r.rw ||| r.rwp) != 0 | none => false

/-! Meters (R398, R400, R401). -/

/-- The die carries the quantity (Table 15.2). -/
def carries (q die : Nat) : Bool :=
  if q = 3 ∨ q = 0x14 ∨ q = 0x16 then true
  else if 1 ≤ q ∧ q ≤ 0x12 ∨ q = 0x17 then decide (die < 4)
  else if q = 0x13 ∨ q = 0x15 then die == 4
  else q == 0x18 && decide (4 ≤ die)
/-- MON_CFG as stored (R398, Table 15.3). -/
def cfgStored (k v : Nat) : Nat :=
  let q := fld v 7 0
  setFld (setFld v 7 0 (if carries q (meterDie k) then q else 0)) 11 10 (Nat.min 2 (fld v 11 10))
/-- Clear a meter's fields (Table 15.1); the count that the period in progress accumulates is no field, and goes on where keep says so. -/
def Mod.clearMeter (m : Mod) (k : Nat) (keep : Bool) : Mod :=
  { m with mon := { m.mon with meter := tset m.mon.meter k { since := m.time, acc := if keep then (tget {} m.mon.meter k).acc else 0 } } }
/-- A take of the selected meter, and the COUNT it returns (R400). -/
def Mod.take (m : Mod) : Nat × Mod :=
  let k := m.rg 0x400000
  let x := tget {} m.mon.meter k
  let mon : Mon := { m.mon with snap := x, snapNo := k, snapSpan := (m.time - x.since) % 2 ^ 48 }
  (fld x.count 31 0, ({ m with mon := mon } : Mod).clearMeter k true)

/-! Reads (R384, R385). -/

/-- Bits of the enabled bytes of a register. -/
def beMask (be : Nat) : Nat := ((List.range 4).map (fun i => if bitAt be i then 0xFF * 256 ^ i else 0)).sum
/-- Clear bits of a stored register. -/
def Mod.unset (m : Mod) (off bits : Nat) : Mod := if m.rg off &&& bits = 0 then m else m.rput off (m.rg off - (m.rg off &&& bits))
/-- Clear bits of a latched half. -/
def Mod.unlatch (m : Mod) (off bits : Nat) : Mod :=
  match tget? m.reg.latch off with
  | some w => { m with reg := { m.reg with latch := tset m.reg.latch off (BitVec.ofNat 32 (w.toNat - (w.toNat &&& bits))) } }
  | none => m
/-- Latch the _HI half of a pair. -/
def State.latchHi (s : State) (lo : Nat) : State :=
  let r := { s.m.reg with latch := tset s.m.reg.latch (lo + 4) (BitVec.ofNat 32 (s.val (lo + 4))) }
  { s with m := { s.m with reg := r } }
/-- RC bits of a register. -/
def rcBits (off : Nat) : Nat := match regRow? off with | some r => r.rc | none => 0
/-- A read of a register through its own offset: its value and the state after it. -/
def State.readReg (s : State) (off be : Nat) : Nat × State :=
  if off = 0x400020 then (let r := s.m.take; (r.1, { s with m := r.2 }))
  else
    let v := match (if isHi off then tget? s.m.reg.latch off else none) with | some w => w.toNat | none => s.val off
    let s1 := if isLo off then s.latchHi off else s
    let bits := rcBits off &&& beMask be &&& v
    -- a latched half is cleared where it is latched; the register may hold a newer access by now
    let s2 := if isHi off && (tget? s.m.reg.latch off).isSome then s1.on (fun m => m.unlatch off bits) else s1.on (fun m => m.unset off bits)
    (v, if off = 0x700018 then s2.on (fun m => { m.unset 0x70001C 0xFFFFFFFF with host := { (m.unset 0x70001C 0xFFFFFFFF).host with refOpen := true } })
        else s2)

/-! Writes (R382, R385 to R394). -/

/-- A value as its register stores it. -/
def Mod.stored (m : Mod) (off v : Nat) : Nat :=
  match off with
  | 0x100004 => Nat.min 1250 (Nat.max 5 v)
  | 0x100008 => Nat.min 10000 (Nat.max 1 v)
  | 0x10000C => Nat.min 10000000 (Nat.max 100 v)
  | 0x100010 => ((List.range 6).map (fun d => Nat.min 2 (fld v (2 * d + 1) (2 * d)) * 4 ^ d)).sum
  | 0x400000 => Nat.min 1151 v
  | 0x400004 => cfgStored (m.rg 0x400000) v
  | 0x40000C => Nat.max 1 v
  | 0x40001C => Nat.max 1 v
  | 0x500068 => Nat.min 105 (Nat.max 60 v)
  | 0x50006C => Nat.max (m.rg 0x500068) (Nat.min 105 (Nat.max 70 v))
  | _ => if 0x700108 ≤ off ∧ off < 0x700300 ∧ off % 8 = 4 then setFld v 18 16 (Nat.min 4 (fld v 18 16)) else v
/-- Store the masked RW and RWP bits of a register. -/
def Mod.regStore (m : Mod) (off v mask : Nat) : Mod :=
  match regRow? off with
  | some r =>
    let w := mask &&& (r.rw ||| r.rwp)
    if w = 0 then m
    else
      let k := m.rkey off
      let old := m.rg k
      m.rput k (m.stored off (old - (old &&& w) + (v &&& w)))
  | none => m
/-- A die below its floor wakes at once (Table 14.6). -/
def Mod.floors (m : Mod) : Mod :=
  (List.range 6).foldl (fun m d =>
    let f := m.floorOf d
    if f ≠ 0 ∧ !(m.ld.phase == 7 && decide (1 ≤ d) && decide (d ≤ 3)) ∧ ((m.die d).st < f ∨ (m.die d).entering.any (fun e => decide (e < f))) then m.wakeTo d f else m) m
/-- SAFE_CMD: guard and OP (R387, R389). -/
def State.safeCmd (s : State) (v : Nat) : State :=
  if fld v 31 16 ≠ 0x5AFE then s.on (fun m => m.raiseEv evSafe 1)
  else if fld v 3 0 = 1 then s.warmRequest 3 else if fld v 3 0 = 2 then s.reload else s.on (fun m => m.raiseEv evSafe 1)
/-- CFG_FLOOR_CMD (R368, R387). -/
def State.floorCmd (s : State) (v : Nat) : State :=
  if fld v 31 16 ≠ 0x5AFE then s.on (fun m => m.raiseEv evCfg 16) else if bitAt v 0 then s.raise else s
/-- CLEAR_HALT for the dies of a mask (R394). -/
def Mod.clearHalt (m : Mod) (mask : Nat) : Mod := (bitsOf 4 mask).foldl (fun m d => m.gput d { m.g d with clear := true }) m
/-- The die is in the die set of a command that is RUNNING, from its dispatch on (R253, R394). -/
def Mod.inRunSet (m : Mod) (d : Nat) : Bool := m.safe.ctx.any (fun p => p.2.run.any (fun r => bitAt r.cr (64 + d)))
/-- A position is written: dropped while a running command holds the die (R394). -/
def Mod.setPosition (m : Mod) (d t e : Nat) : Mod :=
  if m.inRunSet d then m.raiseEv evGrm (2 ^ (8 + d))
  else m.gMove d t (if e < m.gEntries d then e else 0)
/-- The commands of WO fields; v holds only the bits written. -/
def State.act (s : State) (off v : Nat) : State :=
  match off with
  | 0x100014 => s.safeCmd v
  | 0x300024 => if fld v 1 0 = 1 then s.eraseCmd (fld v 27 16) else s
  | 0x300030 => s.floorCmd v
  | 0x50001C => if bitAt v 0 then s.on Mod.fltClear else s
  | 0x500080 => s.on (fun m => m.fltInject v)
  | 0x600224 => s.on (fun m => if v % 4 = 1 then m.winRead else if v % 4 = 2 then m.winWrite else if v % 4 = 3 then m.winClose else m)
  | 0x600254 => s.on (fun m => if v % 4 = 1 then m.routeRead else if v % 4 = 2 then m.routeWrite else m)
  | 0x800044 => s.on (fun m => m.clearHalt (v % 16))
  | _ => s
/-- The bits of v that a mask picks, in place of those of old. -/
def mergeBits (old v mask : Nat) : Nat := old - (old &&& mask) + (v &&& mask)
/-- Hold a write of an _LO half: its value, and under the next key its mask (R385). -/
def Mod.holdLo (m : Mod) (off v mask : Nat) : Mod :=
  let old (k : Nat) : Nat := ((tget? m.reg.hold k).map (fun w => w.toNat)).getD 0
  let h := tset (tset m.reg.hold off (BitVec.ofNat 32 (mergeBits (old off) v mask))) (off + 1) (BitVec.ofNat 32 (old (off + 1) ||| mask))
  { m with reg := { m.reg with hold := h } }
/-- The held half of a pair, and its mask. -/
def Mod.heldLo (m : Mod) (lo : Nat) : Nat × Nat :=
  (((tget? m.reg.hold lo).map (fun w => w.toNat)).getD 0, ((tget? m.reg.hold (lo + 1)).map (fun w => w.toNat)).getD 0)
/-- A write of an _HI half: the pair takes its new value (R385); GRM_POSITION has its own rules (R394). -/
def Mod.commitPair (m : Mod) (hi v mask : Nat) : Mod :=
  let lo := hi - 4
  let h := m.heldLo lo
  let m1 : Mod := { m with reg := { m.reg with hold := tdel (tdel m.reg.hold lo) (lo + 1) } }
  if 0x800000 ≤ lo ∧ lo < 0x800040 then
    let l := mergeBits (m.rg lo) h.1 h.2
    let u := mergeBits (m.rg hi) v (mask &&& 0x0FFFFFFF)
    m1.setPosition ((lo - 0x800000) / 16) (l + 2 ^ 32 * fld u 15 0) (fld u 27 16)
  else (m1.regStore lo h.1 h.2).regStore hi v mask
/-- ERS_PORT_CTRL (Table 12.18). -/
def Mod.portWrite (m : Mod) (p v mask : Nat) : Mod :=
  let m1 := if bitAt mask 0 then m.enablePort p (bitAt v 0) else m
  if bitAt (v &&& mask) 1 then m1.restorePort p else m1
/-- A write of the bits of a mask to a register. -/
def State.writeReg (s : State) (off v mask : Nat) : State :=
  if mask = 0 then s
  else if isLo off then (if pairWritten off then s.on (fun m => m.holdLo off v mask) else s)
  else if isHi off then (if pairWritten (off - 4) then s.on (fun m => m.commitPair off v mask) else s)
  else if off = mbLock then s.on (fun m => m.lockMbox (v &&& mask))
  else if 0x600180 ≤ off ∧ off < 0x600200 ∧ off % 4 = 0 then s.on (fun m => m.portWrite ((off - 0x600180) / 4) v mask)
  else
    match regRow? off with
    | none => s
    | some r =>
      let s1 := s.on (fun m => m.regStore off v mask)
      let s2 := if off = 0x100010 then s1.on Mod.floors
        else if 0x400004 ≤ off ∧ off ≤ 0x400018 ∧ mask &&& r.rwp ≠ 0 then
          s1.on (fun m => m.clearMeter (m.rg 0x400000) (m.rg (m.rkey 0x400004) == s.m.rg (s.m.rkey 0x400004) && m.rg (m.rkey 0x400018) == s.m.rg (s.m.rkey 0x400018)))
        else s1
      if r.wo &&& mask = 0 then s2 else s2.act off (v &&& mask)

/-! Aliases (R383). -/

/-- Register and bit that an offset aliases. -/
def aliasOf (off : Nat) : Option (Nat × Nat) :=
  let o := off % 2 ^ 20
  if 0x80000 ≤ o ∧ o < 0xA0000 ∧ o % 4 = 0 then some (off / 2 ^ 20 * 2 ^ 20 + (o - 0x80000) / 128 * 4, (o - 0x80000) % 128 / 4) else none
/-- Value of a register as its aliases show it: MON_TAKE shows COUNT[31:0] of the selected meter. -/
def State.aliasVal (s : State) (reg : Nat) : Nat := if reg = 0x400020 then fld (tget {} s.m.mon.meter (s.m.rg 0x400000)).count 31 0 else s.val reg
/-- Clear one bit of COUNT of the selected meter: an alias read of MON_TAKE takes no snapshot (Table 14.3; log entry 37). -/
def Mod.unsetCount (m : Mod) (b : Nat) : Mod :=
  let k := m.rg 0x400000
  let x := tget {} m.mon.meter k
  { m with mon := { m.mon with meter := tset m.mon.meter k { x with count := x.count - 2 ^ b } } }
/-- A read of an aliased bit: an RC bit is cleared alone, if the read enables byte 0, which carries it (R384). -/
def State.aliasRead (s : State) (reg b be : Nat) : Nat × State :=
  let v := b2n (bitAt (s.aliasVal reg) b)
  (v, if !(bitAt be 0 && v == 1) then s
      else if reg = 0x400020 then s.on (fun m => m.unsetCount b)
      else if bitAt (rcBits reg) b then s.on (fun m => m.unset reg (2 ^ b)) else s)
/-- A write of an aliased bit: a WO bit acts only where a 1 is written. -/
def State.aliasWrite (s : State) (reg b : Nat) (x : Bool) : State :=
  let wo := match regRow? reg with | some r => bitAt r.wo b | none => false
  if wo && !x then s else s.writeReg reg (b2n x * 2 ^ b) (2 ^ b)

/-! Accesses (R375, R382, R347, R409). -/

/-- An offset of BAR0 that reads zero and drops writes whatever it holds: above the blocks, or in a closed block. -/
def Mod.shut (m : Mod) (off : Nat) : Bool := decide (0x900000 ≤ off) || ([2, 6, 7, 8].contains (off / 2 ^ 20) && !m.opened)
/-- Bytes of a function's MSI-X table, and the offset of its PBA: 32 vectors of a VF in its BAR0 (Table 14.2), 2,048 of the PF (R380; log
entry 92). -/
def msixSpan (fn : Nat) : Nat × Nat := if fn = 0 then (0x8000, 0x8000) else (0x200, 0x2000)
/-- A dword of a function's MSI-X table or PBA (R380). -/
def Mod.msixVal (m : Mod) (fn off : Nat) : Nat :=
  let z := msixSpan fn
  if off < z.1 then m.msixEntry fn off
  else if z.2 ≤ off ∧ off < z.2 + z.1 / 128 then
    bitSet ((m.host.pba.filter (fun p => p.1 == fn && p.2 / 32 == (off - z.2) / 4)).map (fun p => p.2 % 32))
  else 0
/-- A write to a function's MSI-X table; an unmasked pending vector is sent (R380). -/
def Mod.msixWrite (m : Mod) (fn off v mask : Nat) : Mod :=
  if off < (msixSpan fn).1 then
    let w := mergeBits (m.msixEntry fn off) v (if off % 16 = 12 then mask &&& 1 else mask)
    ({ m with host := { m.host with msix := tset m.host.msix (fn * 65536 + off) w } } : Mod).flushMsix
  else m
/-- A read of 4 bytes through BAR0 with its byte enables. -/
def State.bar0Read (s : State) (fn off be : Nat) : State :=
  if !s.m.hostReach fn || decide (64 ≤ fn) || off % 4 != 0 then s.on (fun m => m.answer [] true)
  else if fn ≠ 0 then s.on (fun m => m.answer (natLE 4 (m.msixVal fn off &&& beMask be)) false)
  else if s.m.shut off then s.on (fun m => m.answer (natLE 4 0) false)
  else
    let r := match aliasOf off with | some p => s.aliasRead p.1 p.2 be | none => s.readReg off be
    r.2.on (fun m => m.answer (natLE 4 (r.1 &&& beMask be)) false)
/-- A write of 4 bytes through BAR0 with its byte enables. -/
def State.bar0Write (s : State) (fn off v be : Nat) : State :=
  if !s.m.hostReach fn || decide (64 ≤ fn) || off % 4 != 0 then s.on (fun m => m.answer [] true)
  else if fn ≠ 0 then s.on (fun m => (m.msixWrite fn off v (beMask be)).answer [] false)
  else if s.m.shut off then s.on (fun m => m.answer [] false)
  else (match aliasOf off with
    | some p => if bitAt be 0 then s.aliasWrite p.1 p.2 (bitAt v 0) else s
    | none => s.writeReg off v (beMask be)).on (fun m => m.answer [] false)


/-! METER_PERIOD (R396). -/

/-- Tiles whose sample of a tile quantity passes the filter of meter k. -/
def Mod.meterTiles (m : Mod) (k : Nat) : List Nat :=
  if bitAt (m.mcfg k 0x10) 16 then dieTiles (meterDie k)
  else (let t := fld (m.mcfg k 0x10) 9 0; if tDie t = meterDie k ∧ kindOf t ≠ .none then [t] else [])
/-- Samples of a period quantity for meter k, at the end of the period; the counted cycles are free values (log entry 46). -/
def Mod.periodSamples (m : Mod) (k : Nat) : List Nat × Mod :=
  let q := fld (m.mcfg k 4) 7 0
  let sel := m.mcfg k 0x18
  if q = 0x04 then ((m.meterTiles k).map (fun t => (tget [] (m.t t).queues (fld (m.mcfg k 0x10) 15 10)).length), m)
  else if q = 0x0C then (m.meterTiles k).foldl (fun p _ => let r := p.2.draw; (p.1 ++ [r.1 % 2 ^ 32], r.2)) ([], m)
  else if q = 0x14 then ((m.temp (meterDie k) sel).toList, m)
  else if q = 0x15 then (if sel < 11 then [tget 0 m.pw.railMa sel] else [], m)
  else if q = 0x16 ∨ q = 0x18 then ([(tget {} m.mon.meter k).acc], m)
  else if q = 0x17 then (let r := m.draw; ([if m.duty (meterDie k) = 16 then 0 else r.1 % 2 ^ 32], r.2))
  else ([], m)
/-- One meter at the end of a period: up to 4 samples in the cycle are recorded, the rest are missed (R396). -/
def Mod.periodMeter (m : Mod) (k : Nat) : Mod :=
  let cfg := m.mcfg k 4
  if bitAt cfg 9 && (decide (4 ≤ meterDie k) || (m.die (meterDie k)).st != 0) then
    let r := m.periodSamples k
    let x := (r.1.take 4).foldl (fun (x : Meter) v => x.take cfg (m.mcfg k 8) (m.mcfg k 0xC) v) (tget {} m.mon.meter k)
    let y : Meter := { x with missed := satAdd 32 x.missed (r.1.length - 4), acc := 0 }
    if r.1.isEmpty then r.2 else { r.2 with mon := { r.2.mon with meter := tset m.mon.meter k y } }
  else m
/-- METER_PERIOD (R396). -/
def execMeterPeriod (s : State) : Host.Outcome State Fault Refusal :=
  .next (s.on fun m =>
    let ks := (m.reg.v.filter (fun p => decide (0x10000000 ≤ p.1) && p.1 % 0x40 == 4)).map (fun p => (p.1 - 0x10000000) / 0x40)
    if m.porDone then m.using ([0x40001C] ++ (m.reg.v.map (·.1)).filter (fun o => decide (0x10000000 ≤ o))) (fun m => ks.foldl Mod.periodMeter m) else m)

end Sys2Proof.Machine
end

