-- ==== Sys2Proof/Machine/Bars.lean ====
section
/-! DEFINITION. Host accesses as they arrive: configuration space, the order of R216, the credits of R370, and every command that is one
(R347, R372 to R379, R382 to R394). -/

namespace Sys2Proof.Machine

/-! Configuration space (R347, R372, R373, R375, R392). The offsets of the DVSEC are the spec's; those of the header are the base
specification's, and those of the other capabilities are the model's (log entry 92). -/

/-- BARs of a function (Table 14.2): offset in configuration space, value of the low type bits (4 for 64-bit, 8 more for prefetchable), and
log of the size. -/
def barRows (fn : Nat) : List (Nat × Nat × Nat) :=
  if fn = 0 then [(0x10, 4, 27), (0x18, 0xC, 36), (0x20, 0xC, 28)] else [(0x10, 4, 14), (0x18, 0xC, 33)]
/-- A dword of a BAR: the written address without the bits below the size, and the type. -/
def Mod.barDword (m : Mod) (fn off : Nat) : Option Nat :=
  let v (o : Nat) : Nat := tget 0 m.host.bars (4096 * fn + o)
  (barRows fn).findSome? (fun r =>
    let a := (v r.1 + 2 ^ 32 * v (r.1 + 4)) / 2 ^ r.2.2 * 2 ^ r.2.2
    if off = r.1 then some (a % 2 ^ 32 + r.2.1) else if off = r.1 + 4 then some (a / 2 ^ 32 % 2 ^ 32) else none)
/-- The Ngalu DVSEC of the PF (Table 14.9). -/
def Mod.dvsec (m : Mod) (off : Nat) : Option Nat :=
  match off with
  | 0x400 => some (0x0023 + 2 ^ 16)
  | 0x404 => some (Config.vendorId % 2 ^ 16 + 0x20 * 2 ^ 20)
  | 0x408 => some 1
  | 0x40C => some m.loadStatus
  | 0x410 => some m.ld.detail
  | 0x414 => some (fld Config.unitId 31 0)
  | 0x418 => some (fld Config.unitId 63 32)
  | _ => none
/-- Link Status: the rate's code, 6 for 64 GT/s and 7 for 128 GT/s, the lanes. -/
def HostIf.linkStatus (h : HostIf) : Nat := (if h.gen7 then 7 else 6) + 2 ^ 4 * (h.width % 64)
/-- A dword of a capability: the bits that are fixed, those that are written, those that a one clears, and its reset value. -/
structure CfgRow where
  fixed : Nat := 0
  rw : Nat := 0
  rw1c : Nat := 0
  reset : Nat := 0
deriving DecidableEq, Repr
/-- Capabilities of every function: the header's pointer to them, PCI Express at 0x40, MSI-X at 0x80 with 2,048 vectors of the PF or 32 of a
VF, and power management at 0x90 (R372, R380). -/
def capRows (fn : Nat) : List (Nat × CfgRow) :=
  [(0x04, { fixed := 2 ^ 20 }), (0x34, { fixed := 0x40 }), (0x40, { fixed := 0x10 + 2 ^ 8 * 0x80 + 2 ^ 17 }),
   (0x44, { fixed := 2 + 2 ^ 15 + 2 ^ 28 }), (0x4C, { fixed := 7 + 2 ^ 4 * 16 + 2 ^ 11 }), (0x64, { fixed := 0xF }), (0x6C, { fixed := 0xFE }),
   (0x80, { fixed := 0x11 + 2 ^ 8 * 0x90 + 2 ^ 16 * (if fn = 0 then 2047 else 31), rw := 0xC0000000 }),
   (0x88, { fixed := if fn = 0 then 0x8000 else 0x2000 }), (0x90, { fixed := 0x01 + 2 ^ 16 * 3 })]
/-- Extended capabilities: of the PF, AER at 0x100, ARI at 0x150 and SR-IOV at 0x160 with 63 VFs, before the DVSEC at 0x400; of a VF, ARI
(R372, R375, R392). -/
def extRows (fn : Nat) : List (Nat × CfgRow) :=
  if fn ≠ 0 then [(0x100, { fixed := 0x0E + 2 ^ 16 })]
  else
    [(0x100, { fixed := 0x01 + 2 ^ 17 + 2 ^ 20 * 0x150 }), (0x104, { rw1c := 2 ^ 22 + 2 ^ 14 }), (0x108, { rw := 2 ^ 22 + 2 ^ 14 }),
     (0x10C, { rw := 2 ^ 22 + 2 ^ 14, reset := 2 ^ 22 }), (0x110, { rw1c := 1 }), (0x114, { rw := 1 }),
     (0x150, { fixed := 0x0E + 2 ^ 16 + 2 ^ 20 * 0x160 }), (0x160, { fixed := 0x10 + 2 ^ 16 + 2 ^ 20 * 0x400 }), (0x164, { fixed := 2 }),
     (0x168, { rw := 0x19 }), (0x16C, { fixed := 63 + 2 ^ 16 * 63 }), (0x170, { rw := 0xFFFF }), (0x174, { fixed := 1 + 2 ^ 16 }),
     (0x178, { fixed := 2 ^ 16 * 0x1153 }), (0x17C, { fixed := 0x553 }), (0x180, { rw := 0xFFFFFFFF, reset := 1 })]
/-- Row of a dword of a function. -/
def cfgRow? (fn off : Nat) : Option CfgRow := ((capRows fn ++ extRows fn).find? (fun p => p.1 == off)).map (·.2)
/-- A dword of a function's configuration space: identities, BARs and capabilities of every function, power state among them (R374); of the
PF, Device Control, Link Status, Device Control 2 of the PCIe capability at 0x40, and the DVSEC. Every other dword reads 0. -/
def Mod.cfgRead (m : Mod) (fn off : Nat) : Nat :=
  if off = 0 then Config.vendorId % 2 ^ 16 + 2 ^ 16 * (if fn = 0 then 0x1152 else 0x1153)
  else if off = 0x94 then (if m.pw.d3.contains fn then 3 else 0) + 2 ^ 3
  else match m.barDword fn off with
    | some v => v
    | none => match cfgRow? fn off with
      | some r => r.fixed ||| ((tget? m.host.cfg (4096 * fn + off)).getD r.reset &&& (r.rw ||| r.rw1c))
      | none =>
        if fn ≠ 0 then 0
        else if off = 0x48 then 2 ^ 5 * m.host.mps + 2 ^ 12 * m.host.mrrs
        else if off = 0x50 then 2 ^ 16 * m.host.linkStatus
        else if off = 0x68 then m.host.cto
        else (m.dvsec off).getD 0
/-- A write of configuration space: BARs; capabilities; the power state; payload sizes up to 512 bytes and read requests up to 4,096 bytes,
others leaving the size as it was; the completion timeout range (R372 to R374, R380). -/
def Mod.cfgWrite (m : Mod) (fn off v be : Nat) : Mod :=
  let w := mergeBits (m.cfgRead fn off) v (beMask be)
  if (m.barDword fn off).isSome then { m with host := { m.host with bars := tset m.host.bars (4096 * fn + off) w } }
  else if off = 0x94 then (if w % 4 = 3 then m.powerState fn true else if w % 4 = 0 then m.powerState fn false else m)
  else match cfgRow? fn off with
    | some r =>
      let old := (tget? m.host.cfg (4096 * fn + off)).getD r.reset
      let keep := old &&& r.rw1c
      ({ m with host := { m.host with
          cfg := tset m.host.cfg (4096 * fn + off) ((w &&& r.rw) ||| (keep - (keep &&& v &&& beMask be))) } } : Mod).flushMsix
    | none =>
      if fn ≠ 0 then m
      else if off = 0x48 then
        { m with host := { m.host with mps := if fld w 7 5 ≤ 2 then fld w 7 5 else m.host.mps,
                                       mrrs := if fld w 14 12 ≤ 5 then fld w 14 12 else m.host.mrrs } }
      else if off = 0x68 then { m with host := { m.host with cto := fld w 3 0 } }
      else m

/-! Accesses in their order (R216, R370). -/

/-- The access takes effect now, through BAR2 only while that is open (R347, R409); the bytes of a BAR4 write that the flash buffer has no room for wait on. -/
def State.perform (x : HostAcc) (s : State) : State :=
  match x.space with
  | .bar0 => if x.wr then s.bar0Write x.fn x.addr (leNat x.data) x.be else s.bar0Read x.fn x.addr x.be
  | .dev => if s.m.opened then s.on (fun m => m.hostDo x) else s.on (fun m => m.answer (if x.wr then [] else List.replicate x.len 0) false)
  | .bitmap => s.on (fun m => if !m.opened then m.answer (if x.wr then [] else List.replicate x.len 0) false else if x.wr then (m.bitmapWrite x.fn x.addr x.data).answer [] false else m.answer (m.bitsRead x.fn x.addr x.len) false)
  | .bar4 =>
    if x.wr then
      let r := s.bar4Write x.addr x.data
      let n := r.1.length
      (if n = 0 then r.2 else r.2.on (fun m => { m with sleepers := m.sleepers ++ [{ x with addr := x.addr + (x.len - n), len := n, data := r.1 }] })).on
        (fun m => m.answer [] false)
    else s.on (fun m => m.answer (natLE 4 (leNat (s.bar4Read x.addr 4) &&& beMask x.be)) false)
  | .cfg =>
    if x.wr then s.on (fun m => (m.cfgWrite x.fn x.addr (leNat x.data) x.be).answer [] false)
    else s.on (fun m => m.answer (natLE 4 (m.cfgRead x.fn x.addr &&& beMask x.be)) false)
  | .msix =>
    if x.wr then s.on (fun m => (m.msixWrite 0 x.addr (leNat x.data) (beMask x.be)).answer [] false)
    else s.on (fun m => m.answer (natLE 4 (m.msixVal 0 x.addr &&& beMask x.be)) false)
/-- Nothing keeps the access from its place: its way is awake, and it passes nothing that it must stay behind. -/
def Mod.hostGoes (m : Mod) (x : HostAcc) : Bool := (x.space != .dev || !m.opened || m.hostAwake x) && !m.sleepers.any x.behind
/-- Waiting accesses whose way is free are performed in order. -/
def State.hostDrain : List HostAcc → State → State
  | [], s => s
  | x :: xs, s => State.hostDrain xs (if s.m.hostGoes x then s.perform x else s.on (fun m => { m with sleepers := m.sleepers ++ [x] }))
/-- Every waiting access is tried again. -/
def State.hostAgain (s : State) : State := State.hostDrain s.m.sleepers (s.on (fun m => { m with sleepers := [] }))

/-- An access arrives behind those that wait, of which the free ones go first: it is performed, or it waits for a wake or its turn; a wake
starts (R21, R216). -/
def State.host (x : HostAcc) (s0 : State) : State :=
  let s := if s0.m.sleepers.isEmpty then s0 else s0.hostAgain
  if s.m.hostGoes x then s.perform x
  else s.on (fun m =>
    let m1 := if x.space = .dev then (spanDies x.addr x.len).foldl (fun m v => m.raisePath 4 v) m else m
    { m1 with sleepers := m1.sleepers ++ [x] })

/-- A 4-byte access through BAR0; one that reaches no register ends at once (R382). -/
def State.bar0 (fn off be v : Nat) (wr : Bool) (s : State) : State :=
  if !s.m.hostReach fn || decide (64 ≤ fn) || off % 4 != 0 then s.on (fun m => m.answer [] true)
  else s.host { space := .bar0, fn := fn, addr := off, len := 4, wr := wr, relaxed := false, data := if wr then natLE 4 v else [], be := be }
/-- A write of all four bytes of a PF register. -/
def State.pfWrite (off v : Nat) (s : State) : State := s.bar0 0 off 15 v true
/-- Offset of the alias of a bit (R383). -/
def aliasAt (reg b : Nat) : Nat := reg / 2 ^ 20 * 2 ^ 20 + 0x80000 + reg % 2 ^ 20 * 32 + 4 * b
/-- A write through the PF's BAR4. -/
def State.bar4 (off : Nat) (data : List Byte) (s : State) : State :=
  if !s.m.hostReach 0 then s.on (fun m => m.answer [] true)
  else s.host { space := .bar4, fn := 0, addr := off, len := data.length, wr := true, relaxed := false, data := data }
/-- The runs of bytes that a 4-byte write enables, with their offsets. -/
def enabledRuns (v be : Nat) : List (Nat × List Byte) :=
  let l := ((natLE 4 v).take 4).zipIdx.filter (fun p => bitAt be p.2)
  l.foldr (fun p rs => match rs with
    | (o, bs) :: rest => if o = p.2 + 1 then (p.2, p.1 :: bs) :: rest else (p.2, [p.1]) :: rs
    | [] => [(p.2, [p.1])]) []
/-- A 4-byte access to a place; a write writes only the bytes it enables. D3hot does not close configuration space, and after a release of
PERST_N it answers with retry status for a time (R347, R374, R379, R382, R432; log entry 92). -/
def State.dword (fn : Nat) (p : Place) (be v : Nat) (wr : Bool) (s : State) : State :=
  match p with
  | .bar0 off => s.bar0 fn off be v wr
  | .bar4 off =>
    if fn ≠ 0 then s.on (fun m => m.answer [] true)
    else if !s.m.hostReach 0 then s.on (fun m => m.answer [] true)
    else if wr then (enabledRuns v be).foldl (fun s r => s.bar4 (off + r.1) r.2) (s.on (fun m => m.answer [] false))
    else s.host { space := .bar4, fn := 0, addr := off, len := 4, wr := false, relaxed := false, data := [], be := be }
  | .cfg off =>
    if s.m.ld.phase = 0 ∨ s.m.pw.perst ∨ 64 ≤ fn ∨ 4096 ≤ off ∨ off % 4 ≠ 0 then s.on (fun m => m.answer [] true)
    else if s.m.time < s.m.host.crsUntil then s.on Mod.answerRetry
    else s.host { space := .cfg, fn := fn, addr := off, len := 4, wr := wr, relaxed := false, data := if wr then natLE 4 v else [], be := be }
  | .msix off =>
    if fn ≠ 0 ∨ !s.m.hostReach 0 ∨ off % 4 ≠ 0 then s.on (fun m => m.answer [] true)
    else s.host { space := .msix, fn := 0, addr := off, len := 4, wr := wr, relaxed := false, data := if wr then natLE 4 v else [], be := be }

/-- RWP registers that place an access through BAR2 (Table 14.10). -/
def bar2Regs (fn : Nat) : List Nat := if fn = 0 then [0x700000, 0x700004] else [0x700100 + 8 * fn, 0x700104 + 8 * fn]
/-- A BAR2 access of a function (R374, R376 to R378, R386). -/
def State.bar2 (fn off n : Nat) (wr relaxed : Bool) (data : List Byte) (s : State) : State :=
  let zeros : List Byte := if wr then [] else List.replicate n 0
  if !s.m.hostReach fn then s.on (fun m => m.answer [] true)
  else if !s.m.opened || n == 0 then s.on (fun m => m.answer zeros false)
  else if !(bar2Regs fn).all s.m.reg.sound then s.on (fun m => m.parityFault.answer zeros false)
  else match s.m.bar2Acc fn off n wr relaxed data with
    | some x => s.host x
    | none => s.on (fun m => (match m.bar2Refused fn off n with | some a => m.refuse fn a 1 | none => m).answer zeros false)
/-- HOST_BAR2_WRITE (R216). -/
def execHostBar2Write (fn off : Nat) (relaxed : Bool) (data : List Byte) (s : State) : Host.Outcome State Fault Refusal :=
  .next (s.bar2 fn off data.length true relaxed data)
/-- HOST_BAR2_READ (R216). -/
def execHostBar2Read (fn off len : Nat) (s : State) : Host.Outcome State Fault Refusal := .next (s.bar2 fn off len false false [])
/-- WORK_BITMAP_WRITE: a host write at a byte offset of the bitmap range (R24, R244), in the order of R216. -/
def execWorkBitmapWrite (fn off : Nat) (data : List Byte) (s : State) : Host.Outcome State Fault Refusal :=
  .next (if s.m.hostReach fn && s.m.opened then
    s.host { space := .bitmap, fn := fn, addr := off, len := data.length, wr := true, relaxed := false, data := data } else s)
/-- What waited for a die that has left DEEP goes on: requests, remote ones, flits, collectives of its engine, resolutions (R20, R21). -/
def Mod.awaken (m : Mod) (die : Nat) : Mod :=
  let m1 := m.wakeFar.wakeReqs.crossOver
  (if 4 ≤ die then m1.wakeColls (die - 4) else m1).safeRetry
/-- WAKE_TO_NAP_DONE: a die raised from DEEP is in NAP; accesses and remote requests that waited for it go on (R20, R21). Requests of a
contained module do not (R408). -/
def execWakeToNapDone (die : Nat) (s : State) : Host.Outcome State Fault Refusal :=
  .next (if die < 6 ∧ (s.m.die die).st = 0 ∧ (s.m.die die).waking.isSome then
    ((s.on (fun m => m.leaveDeep die)).hostAgain).on (fun m => if m.mon.fltState = 0 then m.awaken die else m) else s)

/-! Commands that are accesses of registers. -/

/-- RC_REGISTER_READ: a read of any BAR0 register, whose RC bits are cleared (R384); of BAR4 or of configuration space (log entry 92). -/
def execRcRegisterRead (fn : Nat) (p : Place) (be : Nat) (s : State) : Host.Outcome State Fault Refusal := .next (s.dword fn p be 0 false)
/-- REGISTER_WRITE: a write of any BAR0 register (R382), or of another space (log entry 92). -/
def execRegisterWrite (fn : Nat) (p : Place) (v be : Nat) (s : State) : Host.Outcome State Fault Refusal := .next (s.dword fn p be v true)
/-- ALIAS_ACCESS; a misaligned one ends in Unsupported Request (R382, R383). -/
def execAliasAccess (off : Nat) (wr : Bool) (v : Nat) (s : State) : Host.Outcome State Fault Refusal :=
  .next (if (aliasOf off).isNone ∧ off % 4 = 0 then s else s.bar0 0 off 15 v wr)
/-- PAIR_LO_READ (R385). -/
def execPairLoRead (off : Nat) (s : State) : Host.Outcome State Fault Refusal := .next (if isLo off then s.bar0 0 off 15 0 false else s)
/-- PAIR_HI_WRITE (R385). -/
def execPairHiWrite (off v : Nat) (s : State) : Host.Outcome State Fault Refusal := .next (if isHi off then s.pfWrite off v else s)
/-- GRM_POSITION_WRITE: both halves of GRM_POSITION[d] are written (R394). -/
def execGrmPositionWrite (d v : Nat) (s : State) : Host.Outcome State Fault Refusal :=
  .next (if d < 4 then (s.pfWrite (0x800000 + 16 * d) (fld v 31 0)).pfWrite (0x800004 + 16 * d) (fld v 63 32) else s)
/-- CLEAR_HALT (R394). -/
def execClearHalt (mask : Nat) (s : State) : Host.Outcome State Fault Refusal := .next (s.pfWrite 0x800044 (mask % 16))
/-- SAFE_SLEEP_CTRL_WRITE (R389). -/
def execSafeSleepCtrlWrite (v : Nat) (s : State) : Host.Outcome State Fault Refusal := .next (s.pfWrite 0x100010 v)
/-- CMD_REJECT: a write without the guard, 0 of SAFE_CMD, 1 of CFG_FLOOR_CMD (R387). -/
def execCmdReject (which : Nat) (s : State) : Host.Outcome State Fault Refusal :=
  .next (if which = 0 then s.pfWrite 0x100014 1 else if which = 1 then s.pfWrite 0x300030 1 else s)
/-- METER_TAKE: a read of MON_TAKE (R400). -/
def execMeterTake (s : State) : Host.Outcome State Fault Refusal := .next (s.bar0 0 0x400020 15 0 false)
/-- METER_CONFIG_WRITE: a configuration register of the selected meter, or MON_PERIOD (R401, R402). -/
def execMeterConfigWrite (off v : Nat) (s : State) : Host.Outcome State Fault Refusal :=
  .next (if 0x400004 ≤ off ∧ off ≤ 0x40001C ∧ off % 4 = 0 then s.pfWrite off v else s)
/-- FLT_CLEAR (R414). -/
def execFltClear (s : State) : Host.Outcome State Fault Refusal := .next (s.pfWrite 0x50001C 1)
/-- FLT_INJECT (R415). -/
def execFltInject (v : Nat) (s : State) : Host.Outcome State Fault Refusal := .next (s.pfWrite 0x500080 v)
/-- SAFE_WARM_RESET: SAFE OP 1 with its guard (R389). -/
def execSafeWarmReset (s : State) : Host.Outcome State Fault Refusal := .next (s.pfWrite 0x100014 0x5AFE0001)
/-- SAFE_RELOAD: SAFE OP 2 with its guard (R345, R389). -/
def execSafeReload (s : State) : Host.Outcome State Fault Refusal := .next (s.pfWrite 0x100014 0x5AFE0002)
/-- PORT_RESTORE (R297). -/
def execPortRestore (p : Nat) (s : State) : Host.Outcome State Fault Refusal := .next (if p < 32 then s.pfWrite (aliasAt (0x600180 + 4 * p) 1) 1 else s)
/-- PORT_DISABLE (R325). -/
def execPortDisable (p : Nat) (s : State) : Host.Outcome State Fault Refusal := .next (if p < 32 then s.pfWrite (aliasAt (0x600180 + 4 * p) 0) 0 else s)
/-- PORT_ENABLE (R304). -/
def execPortEnable (p : Nat) (s : State) : Host.Outcome State Fault Refusal := .next (if p < 32 then s.pfWrite (aliasAt (0x600180 + 4 * p) 0) 1 else s)
/-- WIN_CMD_READ (R329). -/
def execWinCmdRead (s : State) : Host.Outcome State Fault Refusal := .next (s.pfWrite 0x600224 1)
/-- WIN_CMD_WRITE (R311). -/
def execWinCmdWrite (s : State) : Host.Outcome State Fault Refusal := .next (s.pfWrite 0x600224 2)
/-- WIN_CMD_CLOSE (R311). -/
def execWinCmdClose (s : State) : Host.Outcome State Fault Refusal := .next (s.pfWrite 0x600224 3)
/-- ROUTE_CMD_READ (R329). -/
def execRouteCmdRead (s : State) : Host.Outcome State Fault Refusal := .next (s.pfWrite 0x600254 1)
/-- ROUTE_CMD_WRITE (R329). -/
def execRouteCmdWrite (s : State) : Host.Outcome State Fault Refusal := .next (s.pfWrite 0x600254 2)
/-- MBOX_LOCK (R391). -/
def execMboxLock (v : Nat) (s : State) : Host.Outcome State Fault Refusal := .next (s.pfWrite 0x300010 v)
/-- GET_REPORT (R367). -/
def execGetReport (s : State) : Host.Outcome State Fault Refusal := .next (s.bar4 0x0FFF0000 [1])
/-- GET_CERT (R367). -/
def execGetCert (s : State) : Host.Outcome State Fault Refusal := .next (s.bar4 0x0FFF0000 [2])
/-- MBOX_RELEASE (R366). -/
def execMboxRelease (s : State) : Host.Outcome State Fault Refusal := .next (s.bar4 0x0FFF0000 [0])
/-- MBOX_FORMAT (R366). -/
def execMboxFormat (v : Nat) (s : State) : Host.Outcome State Fault Refusal := .next (if 2 < v % 256 then s.bar4 0x0FFF0000 [BitVec.ofNat 8 v] else s)
/-- RAISE_FLOOR: CFG_FLOOR_CMD with its guard (R368). -/
def execRaiseFloor (s : State) : Host.Outcome State Fault Refusal := .next (s.pfWrite 0x300030 0x5AFE0001)
/-- FLASH_ERASE (R370). -/
def execFlashErase (sector : Nat) (s : State) : Host.Outcome State Fault Refusal := .next (s.pfWrite 0x300024 (1 + 2 ^ 16 * (sector % 4096)))
/-- FLASH_WRITE: a BAR4 write (R366, R370, R379). -/
def execFlashWrite (off : Nat) (data : List Byte) (s : State) : Host.Outcome State Fault Refusal := .next (s.bar4 off data)
/-- FLASH_PAGE_PROGRAMMED: credits return with the room in the buffer (R370). -/
def execFlashPageProgrammed (s : State) : Host.Outcome State Fault Refusal :=
  .next (
    let l := s.nv.page
    if s.nv.erase.isSome || l.isEmpty then s
    else (({ s with nv := { s.nv with flash := program s.nv.flash l, buf := s.nv.buf.drop l.length } } : State).hostAgain).flashIdle)
/-- HOLDOFF_END, or the end of a containment that the reset has waited for (R410): blocks whose writes have not been accepted are not written, and the reset runs; host accesses already received go on
(R291, R431, R371). -/
def execHoldoffEnd (s : State) : Host.Outcome State Fault Refusal :=
  .next (if s.m.pw.warm.isSome && (s.m.pw.holdoff || s.m.pw.due) then (s.cutFlash.on Mod.warmBody).hostAgain else s)

end Sys2Proof.Machine
end

