-- ==== Sys2Proof/Machine/Engines.lean ====
section
/-! DEFINITION. Transfers of the fetch and store engines (R150 to R155, R170, R171, R194 to R202, R307). -/

namespace Sys2Proof.Machine

/-- Bytes of host memory: those the module has written, as it wrote them (R208); every other one is a free value (R200, log entry 1). -/
def Mod.hostByte (m : Mod) (a k : Nat) : Byte :=
  if m.host.writes.any (fun w => w.msi.isNone && decide (w.addr ≤ a + k) && decide (a + k < w.addr + w.len)) then mget 0 m.hmem (a + k)
  else BitVec.ofNat 8 (Config.free (m.fresh + k))
/-- Read host memory on a function, whose requester identity each request carries, in requests of up to Max_Read_Request_Size (R200, R372;
log entry 80). -/
def Mod.hostBytes (m : Mod) (fn a n : Nat) : List Byte × Mod :=
  let bs := (List.range n).map (m.hostByte a)
  let rs := (cutEvery (128 * 2 ^ m.host.mrrs) (n + 1) a bs).map (fun p => (⟨fn, p.1, p.2.length⟩ : HostRd))
  (bs, { m with fresh := m.fresh + n, host := { m.host with reads := rs.reverse ++ m.host.reads } })
/-- Bytes of a local source, whose pattern has been read, and the detail of GATHER_RANGE when an index is out of range (R153). -/
def Mod.srcBytes (m : Mod) (tile q : Nat) (d : Desc) : Option (List Byte) × Option Nat × Mod :=
  let x := d.raw
  if tSm x = 4 then let r := (m.charge d.ctx 8 (tLen x)).hostBytes (tenOf d.ctx) (tSrc x) (tLen x); (some r.1, none, r.2)
  else if tSm x = 0 then let r := m.fetchQ tile q d.ctx (tSrc x) (tLen x); (r.1, none, r.2)
  else
    let p := (m.chk tile q).rd (tSrc x) 64
    let ix := fld p 111 64
    let pre := if fld p 3 0 = 4 then m.fetchQ tile q d.ctx ix (4 * fld p 207 192) else (some [], m)
    match pre with
    | (none, m2) => (none, none, m2)
    | (some _, m2) =>
      let s := patSource (m2.chk tile q).rd p
      let r := m2.readRanges tile q d.ctx s.1
      (r.1, s.2.map (fun i => ix + 4 * i + mtTile ((ix + 4 * i - spBase) / 0x400000) * 2 ^ 48), r.2)
/-- Elements converted by a store engine, and the largest magnitude pattern (R45, R46, R199). -/
def convertBytes (x xr seed : Nat) (bs : List Byte) : List Byte × Nat :=
  let vs := ((chunks (fmtSize (tSf x)) bs).map (fun b => decodeNum (tSf x) (leNat b))).zipIdx
  let rnd (i : Nat) : Rnd := { rc := fld x 186 184, sat := bitAt x 187, srw := fld x 189 188, seed := seed, tensor := fld x 213 198,
                               elem := (if bitAt x 236 then fld xr 111 64 else 0) + i }
  (vs.flatMap (fun p => natLE (fmtSize (tDf x)) (convertNum (tDf x) (rnd p.2) (tScale x) p.1)), vs.foldl (fun a p => max a (maxPattern p.1)) 0)
/-- Byte offset in its window of a window address. -/
def rwByte (x : Nat) : Nat := 32 * rwOff x
/-- Where a remote transfer of some bytes to byte a of a window is cut into requests (R307): a write at the 4 KiB granules of the window, by
which its flits take their paths (R303); an exact-accumulate every 3,264 bytes, a common multiple of the sizes of all forms, so that no
record is split (R310): DESIGN CHOICE (log entry 103). -/
def remoteCuts (xacc : Bool) (a : Nat) (bs : List Byte) : List (Nat × List Byte) :=
  if xacc then (chunks 3264 bs).zipIdx.map (fun p => (a + 3264 * p.2, p.1)) else cutEvery 4096 (bs.length + 1) a bs
/-- Remote write or exact-accumulate requests (R307). The writes are complete at core scope once they are issued (R202, R211). -/
def Mod.sendRemote (m : Mod) (tile q : Nat) (d : Desc) (bs : List Byte) : Mod :=
  let a := rwByte (tDst d.raw)
  let m1 := m.eput tile q ((m.e tile q).setDesc { d with started := true, data := [], off := tLen d.raw })
  (remoteCuts (rwX (tDst d.raw)) a bs).foldl (fun m p =>
    m.remote { id := 0, kind := if rwX (tDst d.raw) then 2 else 1, addr := rwAdd (tDst d.raw) (p.1 - a), len := p.2.length,
               core := tile, q := q, seq := d.seq, ctx := d.ctx, data := p.2 }) m1
/-- Remote read requests, each within one 4 KiB granule of the window (R303, R307). -/
def Mod.askRemote (m : Mod) (tile q : Nat) (d : Desc) : Mod :=
  let n := tLen d.raw
  let a := rwByte (tSrc d.raw)
  let first := a / 4096
  let k := (a + n - 1) / 4096 + 1 - first
  let m1 := m.eput tile q ((m.e tile q).setDesc { d with started := true, rem := k })
  (List.range k).foldl (fun m i =>
    let lo := max a (4096 * (first + i))
    m.remote { id := 0, kind := 0, addr := rwAdd (tSrc d.raw) (lo - a), len := Nat.min (a + n) (4096 * (first + i + 1)) - lo,
               core := tile, q := q, seq := d.seq, ctx := d.ctx, off := lo - a }) m1
/-- Device-memory ranges that a transfer reads at its start: records, an index list, the source. -/
def Mod.readsOf (m : Mod) (tile q : Nat) (x : Nat) : List (Nat × Nat) :=
  (m.chk tile q).named x ++
  (if tSm x = 0 then [(tSrc x, tLen x)]
   else if tSm x = 1 then
     let rd := (m.chk tile q).rd
     let p := rd (tSrc x) 64
     (if fld p 3 0 = 4 then [(fld p 111 64, 4 * fld p 207 192)] else []) ++
       (patSource rd p).1.filterMap (fun r => r.1.map (fun a => (a, r.2)))
   else [])
/-- A started transfer, whose records have been read, moves its bytes (R194 to R199). For a transposed source whose OPITCH leaves gaps R152
speaks of mode 0, strided and endpoint destinations only; at a remote window the elements go packed: DESIGN CHOICE (log entry 102). -/
def Mod.runTransfer (m : Mod) (tile q : Nat) (d : Desc) : Mod :=
  let x := d.raw
  if tSm x = 2 then m
  else if tSm x = 3 then m.askRemote tile q d
  else
    match m.srcBytes tile q d with
    | (none, _, m1) => m1
    | (some bs, bad, m1) =>
      let xr := if bitAt x 236 then (m1.chk tile q).rd (homeAddr tile 0 (fld x 235 214)) 64 else 0
      let cv := convertBytes x xr (m1.cx d.ctx).seed bs
      let out := if tConv x then cv.1 else bs
      let m2 :=
        if tDm x = 2 then (m1.eput tile q ((m1.e tile q).setDesc { d with started := true, data := out })).emit tile
        else if tDm x = 3 then m1.sendRemote tile q d out
        else m1.putDst tile q d 0 out
      let m3 := if tConv x && narrows (tSf x) (tDf x) (tScale x) then m2.update 0 (fld xr 47 0) cv.2 d.ctx tile q else m2
      match bad with
      | some w => m3.cmdFault d.ctx 0x0808 w
      | none => m3
/-- The transfer that starts next: one of a replay list, whose DEP mark holds it until the list's earlier transfers are complete (R96, R203),
or the queue's head with its wait granted (R202). -/
def Mod.nextTransfer (m : Mod) (tile q : Nat) : Option Desc × Mod :=
  let rep := if q = 0 then m.replayDesc tile else none
  match rep with
  | some d => if hKind d.raw ≠ 0x21 ∧ (m.t tile).mc.pass.src.isEmpty ∧ !m.quietTile tile
      ∧ (!hDep d.raw ∨ (m.e tile 0).buf.all (fun x => decide (x.seq < 2 ^ 60))) then (some d, m) else (none, m)
  | none => m.startHead tile q 0x10
/-- A transfer of a replay list enters the engine's buffer (R96). -/
def Mod.takeReplay (m : Mod) (tile q : Nat) (d : Desc) : Mod :=
  if d.seq < 2 ^ 60 then m
  else
    let c := (m.t tile).mc
    let m1 := m.mput tile { c with replay := c.replay + 1 }
    m1.eput tile q { m1.e tile q with buf := (m1.e tile q).buf ++ [d] }
/-- Bytes of device memory that a transfer writes: its destination, and the word of its maximum (R199, R218). -/
def Mod.writesOf (m : Mod) (tile q : Nat) (x : Nat) (dst : List (Nat × Nat)) : List (Nat × Nat) :=
  (if dstSpace (tDm x) = 0 ∧ tDm x ≠ 2 then dst else []) ++
  (if tConv x && narrows (tSf x) (tDf x) (tScale x) then [(fld ((m.chk tile q).rd (homeAddr tile 0 (fld x 235 214)) 64) 47 0, 4)] else [])
/-- A transfer waits for earlier ones of its engine: those that have still to write bytes that it touches, and accesses of a window in
progress (R208). -/
def Mod.follows (m : Mod) (tile q : Nat) (x : Nat) (dst : List (Nat × Nat)) : Bool :=
  let e := m.e tile q
  let src := winSpan (tSrc x) (tLen x)
  e.mustFollow 0 (m.readsOf tile q x) || e.mustFollow 0 (m.writesOf tile q x dst)
  || (tDm x == 4 && e.mustFollow 1 dst) || (tSm x == 4 && e.mustFollow 1 [(tSrc x, tLen x)])
  || (tDm x == 3 && (e.mustFollow 2 dst || m.windowBusy tile q true (winSpan (tDst x) (tLen x))))
  || (tSm x == 3 && (e.mustFollow 2 [src] || m.windowBusy tile q false src))
/-- What a transfer reads before it starts: its own words anew where they stand in a replay list, then its records. -/
def Mod.readStart (m : Mod) (tile q : Nat) (d : Desc) : Option (List Byte) × Mod :=
  match (if d.seq < 2 ^ 60 then (some [], m) else m.fetchQ tile q d.ctx d.addr 32) with
  | (none, m1) => (none, m1)
  | (some _, m1) => m1.readNamed tile q d.ctx d.raw
/-- TRANSFER_START: the next transfer is checked again and issues its requests (R194, R196, R202). It waits while a die on its way sleeps
(R21), and for earlier transfers of the engine (R208). A replay list's descriptor of a kind that the list may not hold fails decode (R96,
R196). -/
def execTransferStart (tile q : Nat) (s : State) : Host.Outcome State Fault Refusal :=
  .next (s.on fun m =>
    match m.nextTransfer tile q with
    | (none, m1) => m1
    | (some d, m1) =>
      let x := d.raw
      if hKind x ≠ 0x10 ∨ transferErr (m1.chk tile q) x ≠ 0 then
        match m1.readStart tile q d with
        | (none, m2) => m2
        | (some _, m2) => m2.descFault tile d.ctx d.addr
      else
        let dst := dstRanges (m1.chk tile q) x
        let asleep := (m1.readsOf tile q x).filter (fun r => !m1.awake (tDie tile) r.1 r.2)
        if !asleep.isEmpty then asleep.foldl (fun m r => m.park tile r.1 r.2) m1
        else if m1.follows tile q x dst then m1
        else
          match m1.readStart tile q d with
          | (none, m2) => m2
          | (some _, m2) =>
            let d1 := { d with started := true, dst := dst }
            let m3 := m2.takeReplay tile q d
            (m3.eput tile q ((m3.e tile q).setDesc d1)).runTransfer tile q d1)
/-- TRANSFER_COMPLETE: every read has returned and every write is complete at core scope; the signal follows (R202). A sink that feeds a
remote destination sends once it holds its bytes. -/
def execTransferComplete (tile q seq : Nat) (s : State) : Host.Outcome State Fault Refusal :=
  .next (s.on fun m =>
    match (m.e tile q).buf.find? (fun d => d.seq == seq) with
    | none => m
    | some d =>
      if !(d.started && hKind d.raw == 0x10) || (tSm d.raw == 2 && decide (d.off < tLen d.raw)) then m
      else if tSm d.raw = 2 ∧ tDm d.raw = 3 ∧ !d.data.isEmpty then m.sendRemote tile q d d.data
      else if !d.data.isEmpty || d.rem != 0 then m
      else m.finish tile q seq)

end Sys2Proof.Machine
end

