-- ==== Sys2Proof/Machine/SpecFn.lean ====
section
/-! DEFINITION. The special functions of the vector engine (R49, R115, R116): bounds in fixed point, refined until both bounds round
alike. A fixed-point value at scale q is an integer that counts 2^-q. -/

namespace Sys2Proof.Machine

/-- Sum of the series of terms t, next t = t * num / (den k), until a term is zero. -/
def series (next : Nat → Nat → Nat) : Nat → Nat → Nat → Nat
  | 0, _, _ => 0
  | f + 1, k, t => if t = 0 then 0 else t + series next f (k + 1) (next k t)
/-- Alternating sum of a series. -/
def altSeries (next : Nat → Nat → Nat) : Nat → Nat → Nat → Int
  | 0, _, _ => 0
  | f + 1, k, t => if t = 0 then 0 else (t : Int) - altSeries next f (k + 1) (next k t)
/-- Sum over k of t_k / (2k+1), with t_(k+1) given; sign alternating or not. -/
def oddSeries (alt : Bool) (next : Nat → Nat) : Nat → Nat → Nat → Int
  | 0, _, _ => 0
  | f + 1, k, t => if t = 0 then 0 else ((t / (2 * k + 1) : Nat) : Int) + (if alt then -1 else 1) * oddSeries alt next f (k + 1) (next t)
/-- e^x for 0 ≤ x < 1 at scale q. -/
def fxExp (q x : Nat) : Nat := series (fun k t => t * x / 2 ^ q / (k + 1)) (q + 8) 0 (2 ^ q)
/-- atanh z, |z| ≤ 1/3, at scale q. -/
def fxAtanh (q z : Nat) : Nat := (oddSeries false (fun t => t * z / 2 ^ q * z / 2 ^ q) (q + 8) 0 z).toNat
/-- ln 2 at scale q. -/
def fxLn2 (q : Nat) : Nat := 2 * fxAtanh q (2 ^ q / 3)
/-- atan (1/n) at scale q. -/
def fxAtanInv (q n : Nat) : Int := oddSeries true (fun t => t / (n * n)) (q + 8) 0 (2 ^ q / n)
/-- π at scale q. -/
def fxPi (q : Nat) : Nat := (16 * fxAtanInv q 5 - 4 * fxAtanInv q 239).toNat
/-- 2^f for 0 ≤ f < 1 at scale q. -/
def fxExp2 (q f : Nat) : Nat := fxExp q (f * fxLn2 q / 2 ^ q)
/-- e^-x for x ≥ 0 at scale q. -/
def fxExpNeg (q x : Nat) : Nat :=
  let l := fxLn2 q
  let n := x / l
  2 ^ (2 * q) / fxExp q (x - n * l) / 2 ^ n
/-- log2 of m * 2^e, m > 0, at scale q. -/
def fxLog2 (q m : Nat) (e : Int) : Int :=
  let k := m.log2
  let x := m * 2 ^ q / 2 ^ k
  let z := (x - 2 ^ q) * 2 ^ q / (x + 2 ^ q)
  ((k : Int) + e) * (2 ^ q : Nat) + ((2 * fxAtanh q z * 2 ^ q / fxLn2 q : Nat) : Int)
/-- sin and cos of r, 0 ≤ r < 1, at scale q. -/
def fxSin (q r : Nat) : Int := altSeries (fun k t => t * r / 2 ^ q * r / 2 ^ q / ((2 * k + 2) * (2 * k + 3))) (q + 8) 0 r
def fxCos (q r : Nat) : Int := altSeries (fun k t => t * r / 2 ^ q * r / 2 ^ q / ((2 * k + 1) * (2 * k + 2))) (q + 8) 0 (2 ^ q)
/-- m * 2^e at scale q, rounded down. -/
def fxOf (q m : Nat) (e : Int) : Nat :=
  if 0 ≤ e + q then m * 2 ^ (e + q).toNat else m / 2 ^ (-(e + q)).toNat
/-- sin (or cos) of m * 2^e, at scale q, reduced by multiples of π/2. -/
def fxTrig (q m : Nat) (e : Int) (cosine : Bool) : Int :=
  let g := ((m.log2 : Int) + e).toNat + 16
  let p := q + g
  let h := fxPi p / 2
  let v := fxOf p m e
  let k := (v + h / 2) / h
  let r : Int := (v : Int) - (k * h : Nat)
  let a := r.natAbs / 2 ^ g
  let s : Int := if r < 0 then -(fxSin q a) else fxSin q a
  let c := fxCos q a
  match (k + (if cosine then 1 else 0)) % 4 with
  | 0 => s
  | 1 => c
  | 2 => -s
  | _ => -c
/-- erf of 0 < m * 2^e ≤ 20 at scale q. -/
def fxErf (q m : Nat) (e : Int) : Nat :=
  let p := q + 1400
  let v := fxOf p m e
  let sum := series (fun k t => 2 * (t * v / 2 ^ p * v / 2 ^ p) / (2 * k + 3)) (8 * p + 4000) 0 v
  let ex := fxExpNeg p (v * v / 2 ^ p)
  let rp := isqrt (fxPi p * 2 ^ p)
  2 * (sum * ex) / rp / 2 ^ 1400

/-- The function's approximation at scale q for a finite argument inside its domain and away from its exact and extreme points. -/
def fxFn (op q : Nat) (neg : Bool) (m : Nat) (e : Int) : Int :=
  let sgnd (x : Int) : Int := if neg then -x else x
  let one : Int := (2 ^ q : Nat)
  match op with
  | 0x20 =>
    let v := fxOf q m e
    let n := v / 2 ^ q
    let f := v % 2 ^ q
    if neg then ((2 ^ (2 * q) / fxExp2 q f / 2 ^ n : Nat) : Int) else (fxExp2 q f * 2 ^ n : Nat)
  | 0x21 => fxLog2 q m e
  | 0x24 => let x : Int := fxExpNeg q (2 * fxOf q m e); sgnd ((one - x) * one / (one + x))
  | 0x25 => let x : Int := fxExpNeg q (fxOf q m e); if neg then x * one / (one + x) else one * one / (one + x)
  | 0x26 => sgnd (fxErf q m e)
  | 0x27 => sgnd (fxTrig q m e false)
  | _ => fxTrig q m e true

/-- A signed fixed-point number as a value. -/
def fxVal (q : Nat) (x : Int) : XVal := .fin (decide (x < 0)) x.natAbs (-(q : Int))
/-- Refine until the bounds, strictly inside which the value lies, round alike. -/
def ziv (g : Nat → Int) (fmt : Nat) (r : Rnd) : Nat → Nat → Option Nat
  | 0, _ => none
  | f + 1, q =>
    let x := g q
    let lo := roundNum fmt r (fxVal q (x - 2 ^ 48))
    let hi := roundNum fmt r (fxVal q (x + 2 ^ 48))
    if lo = hi then some lo else ziv g fmt r f (2 * q)

/-- What a special function gives before rounding: an exact value, or an approximation to refine. -/
inductive SpVal where
  | exact (v : XVal)
  | approx (g : Nat → Int)

/-- The special function of Table 5.4. -/
def specFn (op : Nat) (v : XVal) : SpVal :=
  match v with
  | .nan => .exact .nan
  | .inf n =>
    .exact (match op with
      | 0x20 => if n then .fin false 0 0 else .inf false
      | 0x21 => if n then .nan else .inf false
      | 0x22 => .fin n 0 0
      | 0x23 => if n then .nan else .fin false 0 0
      | 0x24 | 0x26 => .fin n 1 0
      | 0x25 => if n then .fin false 0 0 else .fin false 1 0
      | _ => .nan)
  | .fin neg m e =>
    let z := decide (m = 0)
    let mag : Int := (m.log2 : Int) + e
    match op with
    | 0x20 =>
      if z then .exact xone
      else if 12 ≤ mag then .exact (.fin false 1 (if neg then -5000 else 5000))
      else if 0 ≤ e ∨ m % 2 ^ (-e).toNat = 0 then
        let n : Int := (if 0 ≤ e then m * 2 ^ e.toNat else m / 2 ^ (-e).toNat : Nat)
        .exact (.fin false 1 (if neg then -n else n))
      else .approx (fun q => fxFn op q neg m e)
    | 0x21 =>
      if z then .exact (.inf true)
      else if neg then .exact .nan
      else if m = 2 ^ m.log2 then .exact (.fin (decide (mag < 0)) mag.natAbs 0)
      else .approx (fun q => fxFn op q neg m e)
    | 0x22 => .exact (xrcp v)
    | 0x23 => .exact (xrsqrt v)
    | 0x24 | 0x26 =>
      if z then .exact (.fin neg 0 0)
      else if 5 ≤ mag then .exact (.fin neg (2 ^ 200 - 1) (-200))
      else if mag < -400 then .exact (.fin neg (2 ^ 200 * (2 * m + (if op = 0x26 then m / 4 else 0)) - 1) (e - 201))
      else .approx (fun q => fxFn op q neg m e)
    | 0x25 =>
      if z then .exact (.fin false 1 (-1))
      else if 9 ≤ mag then .exact (if neg then .fin false 1 (-5000) else .fin false (2 ^ 200 - 1) (-200))
      else if mag < -400 then .exact (.fin false (if neg then 2 ^ 200 - 1 else 2 ^ 200 + 1) (-201))
      else .approx (fun q => fxFn op q neg m e)
    | 0x27 =>
      if z then .exact (.fin neg 0 0)
      else if mag < -400 then .exact (.fin neg (2 ^ 200 * m - 1) (e - 200))
      else .approx (fun q => fxFn op q neg m e)
    | _ =>
      if z then .exact xone
      else if mag < -400 then .exact (.fin false (2 ^ 200 - 1) (-200))
      else .approx (fun q => fxFn op q neg m e)

/-- The value rounded to a format; where the refinement gives out (no argument is known to need it) the value is free. -/
def SpVal.round (fmt : Nat) (r : Rnd) (free : Nat) : SpVal → Nat
  | .exact v => roundNum fmt r v
  | .approx g => (ziv g fmt r 8 512).getD (free % 2 ^ (8 * fmtSize fmt))
/-- A strict result (FP32, correctly rounded) or a fast one (bf16: exact, or either neighbour, by a free choice) (R49, R116). Of a fast result
beyond the largest finite value, one of whose neighbours is infinite, the spec does not say whether it is a choice: DESIGN CHOICE, it is the
rounded one under the descriptor's rounding and SAT (log entry 97). -/
def specResult (op : Nat) (strict : Bool) (r : Rnd) (scaleFree : Nat) (v : XVal) : Nat :=
  let x := specFn op v
  if strict then x.round 3 r scaleFree
  else
    let down := x.round 0 { rc := 2 } scaleFree
    let up := x.round 0 { rc := 3 } scaleFree
    let near := x.round 0 r scaleFree
    match decodeNum 0 down, decodeNum 0 up with
    | .fin _ _ _, .fin _ _ _ => if scaleFree % 2 = 0 then down else up
    | _, _ => near

end Sys2Proof.Machine
end

