-- ==== Sys2Proof/Machine/Vector.lean ====
section
/-! DEFINITION. The vector engine of a V-core (R104 to R116). -/

namespace Sys2Proof.Machine

/-- The exact result of an element-wise operation, before SCALE (Table 5.3). -/
def vecElem (op : Nat) (x y z : XVal) : XVal :=
  let truth (b : Bool) : XVal := if b then xone else .fin false 0 0
  let nan := x.isNaN || y.isNaN
  match op with
  | 0x00 => x
  | 0x01 => xadd x y
  | 0x02 => xadd x (xneg y)
  | 0x03 => xmul x y
  | 0x04 => xadd (xmul x y) z
  | 0x05 => xmax x y
  | 0x06 => xmin x y
  | 0x07 => xabs x
  | 0x08 => xneg x
  | 0x09 => xclamp x y
  | 0x0A => if xpos z then x else y
  | 0x0B => truth (xlt x y)
  | 0x0C => truth (!nan && !xlt y x)
  | 0x0D => truth (!nan && !xlt y x && !xlt x y)
  | _ => truth (nan || xlt y x || xlt x y)
/-- A row's reduction: an exact record, or the selected element (R114). -/
def vecRow (op : Nat) (row : List XVal) : Epr :=
  match op with
  | 0x10 => row.foldl (fun a x => a.add (Epr.ofNum x)) Epr.empty
  | 0x11 => row.foldl (fun a x => a.add (Epr.ofNum (xmul x x))) Epr.empty
  | _ =>
    match row with
    | [] => Epr.empty
    | x :: xs => Epr.ofNum (xs.foldl (if op = 0x12 then xmax else xmin) x)
/-- An operand's elements in the order of i (R105, R109). -/
def vecOperand (mode n rowLen const : Nat) (elems : List Nat) : List Nat :=
  match mode with
  | 0 => elems
  | 1 => List.replicate n const
  | 2 => elems.flatMap (fun v => List.replicate rowLen v)
  | _ => (List.range (n / max rowLen 1)).flatMap (fun _ => elems)
/-- Elements of a byte string. -/
def elemsOf (s : Nat) (bs : List Byte) : List Nat := (chunks s bs).map leNat
/-- Whether the descriptor records a maximum word (R113). -/
def vecRecords (x xr : Nat) : Bool :=
  if vOp x = 0 then narrows (fld x 41 38) (fld x 53 50) (sgn 8 (fld xr 119 112))
  else bitAt x 61 && bitAt xr 148 && fld x 53 50 != 7
/-- Result bytes and largest magnitude pattern of a descriptor whose operands are given (R111 to R116). -/
def vecRun (x xr seed fresh : Nat) (xs ys zs : List Nat) : List Byte × Nat :=
  let op := vOp x
  let fo := fld x 53 50
  let scale := sgn 8 (fld xr 119 112)
  let rnd (i : Nat) : Rnd := { rc := fld x 56 54, sat := bitAt x 57, srw := fld x 59 58, seed := seed, tensor := fld xr 63 48, elem := fld xr 111 64 + i }
  let dx (v : Nat) : XVal := decodeNum (fld x 41 38) v
  if vSpecial op then
    let rs := xs.zipIdx.map (fun p => specResult op (bitAt x 60) (rnd p.2) (Config.free (fresh + p.2)) (dx p.1))
    (rs.flatMap (natLE (fmtSize fo)), rs.foldl (fun a r => max a (maxPattern (decodeNum fo r))) 0)
  else if vReduce op then
    let rows := (chunks (max (vRow x xr) 1) xs).map (fun r => vecRow op (r.map dx))
    let out (p : Epr × Nat) : Nat :=
      if fo = 7 then p.1.toNat 7 else roundNum fo (rnd p.2) (scaleNum scale p.1.num)
    (rows.zipIdx.flatMap (fun p => natLE (fmtSize fo) (out p)), rows.foldl (fun a r => max a (maxPattern r.num)) 0)
  else
    let vs := (xs.zip (ys.zip zs)).map (fun p =>
      vecElem op (dx p.1) (decodeNum (fld x 45 42) p.2.1) (decodeNum (fld x 49 46) p.2.2))
    (vs.zipIdx.flatMap (fun p => natLE (fmtSize fo) (roundNum fo (rnd p.2) (scaleNum scale p.1))),
     vs.foldl (fun a v => max a (maxPattern v)) 0)
/-- Read an operand of a descriptor; a constant or an absent operand reads nothing. -/
def Mod.vecRead (m : Mod) (tile c : Nat) (used : Bool) (r : Option (Nat × Nat × Nat)) : Option (List Nat) × Mod :=
  match used, r with
  | true, some (off, s, n) =>
    match m.fetchQ tile 1 c (spBase + off) (s * n) with
    | (some bs, m1) => (some (elemsOf s bs), m1)
    | (none, m1) => (none, m1)
  | _, _ => (some [], m)
/-- Ranges that a vector descriptor reads: its extension record and its operands. -/
def vecReads (tile x xr : Nat) : List (Nat × Nat) :=
  let op (used : Bool) (r : Option (Nat × Nat × Nat)) : List (Nat × Nat) :=
    match used, r with
    | true, some (off, s, n) => [(spBase + off, s * n)]
    | _, _ => []
  (if bitAt x 61 then [(homeAddr tile 0 (fld x 231 210), 64)] else []) ++
  op true (vRange x xr (fld x 92 62) (fld x 41 38) 0) ++ op (vUsesY (vOp x)) (vRange x xr (fld x 123 93) (fld x 45 42) (fld xr 145 144)) ++
  op (vUsesZ (vOp x)) (vRange x xr (fld x 154 124) (fld x 49 46) (fld xr 147 146))
/-- VECTOR_DESCRIPTOR_START: the wait is granted, the extension record and the streams are read and the results written (R106, R111). It
waits while a die on its way sleeps (R21). -/
def Mod.vecStart (m : Mod) (tile : Nat) : Mod :=
  match m.startHead tile 1 0x31 with
  | (none, m1) => m1
  | (some d, m1) =>
    let x := d.raw
    if descErr (m1.chk tile 1) x ≠ 0 then
      match m1.readNamed tile 1 d.ctx x with
      | (none, m2) => m2
      | (some _, m2) => m2.descFault tile d.ctx d.addr
    else
      let xr := vExt (m1.chk tile 1).rd tile x
      let asleep := (vecReads tile x xr).filter (fun r => !m1.awake (tDie tile) r.1 r.2)
      if !asleep.isEmpty then asleep.foldl (fun m r => m.park tile r.1 r.2) m1
      else
      match (m1.markStarted tile 1 d).readNamed tile 1 d.ctx x with
      | (none, m2) => m2
      | (some _, m2) =>
        let op := vOp x
        let ym := fld xr 145 144
        let zm := fld xr 147 146
        let n := vN x
        match m2.vecRead tile d.ctx true (vRange x xr (fld x 92 62) (fld x 41 38) 0) with
        | (none, m3) => m3
        | (some xs, m3) =>
          match m3.vecRead tile d.ctx (vUsesY op) (vRange x xr (fld x 123 93) (fld x 45 42) ym) with
          | (none, m4) => m4
          | (some ys, m4) =>
            match m4.vecRead tile d.ctx (vUsesZ op) (vRange x xr (fld x 154 124) (fld x 49 46) zm) with
            | (none, m5) => m5
            | (some zs, m5) =>
              let pad (used : Bool) (md k : Nat) (l : List Nat) : List Nat :=
                if used then vecOperand md n (vRow x xr) k l else List.replicate n 0
              let r := vecRun x xr (m5.cx d.ctx).seed m5.fresh xs (pad (vUsesY op) ym (fld xr 223 160) ys) (pad (vUsesZ op) zm (fld xr 287 224) zs)
              let m6 := { m5 with fresh := m5.fresh + (if vSpecial op then n else 0) }
              let m7 := m6.issue tile 1 d.seq d.ctx (spBase + fld x 185 155) r.1
              m7.eput tile 1 ((m7.e tile 1).setDesc { d with started := true, maxw := if vecRecords x xr then r.2 + 1 else 0, maxa := fld xr 47 0 })
/-- VECTOR_DESCRIPTOR_START (R106). -/
def execVectorDescriptorStart (tile : Nat) (s : State) : Host.Outcome State Fault Refusal := .next (s.on fun m => m.vecStart tile)
/-- VECTOR_DESCRIPTOR_COMPLETE: the maximum word is updated, and the signal is performed (R106, R113). -/
def execVectorDescriptorComplete (tile seq : Nat) (s : State) : Host.Outcome State Fault Refusal :=
  .next (s.on fun m =>
    match (m.e tile 1).buf.find? (fun d => d.seq == seq && d.started && hKind d.raw == 0x31) with
    | none => m
    | some d =>
      let m1 := if d.maxw = 0 then m else m.update 0 d.maxa (d.maxw - 1) d.ctx tile 1
      m1.finish tile 1 seq)

end Sys2Proof.Machine
end

