-- ==== Sys2Proof/Machine/Dispatch.lean ====
section
/-! DEFINITION. One arm per command: a direct call of its meaning. -/

namespace Sys2Proof.Machine

open Sys2Proof

/-- A command's effect on everything but the queue. -/
def exec (i : Instr) (s : State) : Host.Outcome State Fault Refusal :=
  match i with
  | .hostBar2Write fn off relaxed data => Sys2Proof.Machine.execHostBar2Write fn off relaxed data s
  | .hostBar2Read fn off len => Sys2Proof.Machine.execHostBar2Read fn off len s
  | .workBitmapWrite fn off data => Sys2Proof.Machine.execWorkBitmapWrite fn off data s
  | .safelightPoll => Sys2Proof.Machine.execSafelightPoll s
  | .contextEntryRead ctx => Sys2Proof.Machine.execContextEntryRead ctx s
  | .commandRecordRead ctx => Sys2Proof.Machine.execCommandRecordRead ctx s
  | .startChecks => Sys2Proof.Machine.execStartChecks s
  | .wakeToNapDone die => Sys2Proof.Machine.execWakeToNapDone die s
  | .wakeToRunDone ctx => Sys2Proof.Machine.execWakeToRunDone ctx s
  | .idleNapExpire die => Sys2Proof.Machine.execIdleNapExpire die s
  | .idleDeepExpire die => Sys2Proof.Machine.execIdleDeepExpire die s
  | .napEntryDone die => Sys2Proof.Machine.execNapEntryDone die s
  | .deepEntryDone die => Sys2Proof.Machine.execDeepEntryDone die s
  | .tileUngateDone mt => Sys2Proof.Machine.execTileUngateDone mt s
  | .tileRegate mt => Sys2Proof.Machine.execTileRegate mt s
  | .doneReport n => Sys2Proof.Machine.execDoneReport n s
  | .commandFaultEvent => Sys2Proof.Machine.execCommandFaultEvent s
  | .abortDrainDone ctx => Sys2Proof.Machine.execAbortDrainDone ctx s
  | .scAdd n => Sys2Proof.Machine.execScAdd n s
  | .scSub n => Sys2Proof.Machine.execScSub n s
  | .scAnd n => Sys2Proof.Machine.execScAnd n s
  | .scOr n => Sys2Proof.Machine.execScOr n s
  | .scXor n => Sys2Proof.Machine.execScXor n s
  | .scSll n => Sys2Proof.Machine.execScSll n s
  | .scSrl n => Sys2Proof.Machine.execScSrl n s
  | .scSra n => Sys2Proof.Machine.execScSra n s
  | .scSlt n => Sys2Proof.Machine.execScSlt n s
  | .scSltu n => Sys2Proof.Machine.execScSltu n s
  | .scMul n => Sys2Proof.Machine.execScMul n s
  | .scMulh n => Sys2Proof.Machine.execScMulh n s
  | .scMulhu n => Sys2Proof.Machine.execScMulhu n s
  | .scDiv n => Sys2Proof.Machine.execScDiv n s
  | .scDivu n => Sys2Proof.Machine.execScDivu n s
  | .scRem n => Sys2Proof.Machine.execScRem n s
  | .scRemu n => Sys2Proof.Machine.execScRemu n s
  | .scAddi n => Sys2Proof.Machine.execScAddi n s
  | .scAndi n => Sys2Proof.Machine.execScAndi n s
  | .scOri n => Sys2Proof.Machine.execScOri n s
  | .scXori n => Sys2Proof.Machine.execScXori n s
  | .scSlti n => Sys2Proof.Machine.execScSlti n s
  | .scSlli n => Sys2Proof.Machine.execScSlli n s
  | .scSrli n => Sys2Proof.Machine.execScSrli n s
  | .scSrai n => Sys2Proof.Machine.execScSrai n s
  | .scLui n => Sys2Proof.Machine.execScLui n s
  | .scLdb n => Sys2Proof.Machine.execScLdb n s
  | .scLdbu n => Sys2Proof.Machine.execScLdbu n s
  | .scLdh n => Sys2Proof.Machine.execScLdh n s
  | .scLdhu n => Sys2Proof.Machine.execScLdhu n s
  | .scLdw n => Sys2Proof.Machine.execScLdw n s
  | .apertureLoadReturn n rd => Sys2Proof.Machine.execApertureLoadReturn n rd s
  | .scStb n => Sys2Proof.Machine.execScStb n s
  | .scSth n => Sys2Proof.Machine.execScSth n s
  | .scStw n => Sys2Proof.Machine.execScStw n s
  | .scBeq n => Sys2Proof.Machine.execScBeq n s
  | .scBne n => Sys2Proof.Machine.execScBne n s
  | .scBlt n => Sys2Proof.Machine.execScBlt n s
  | .scBge n => Sys2Proof.Machine.execScBge n s
  | .scBltu n => Sys2Proof.Machine.execScBltu n s
  | .scBgeu n => Sys2Proof.Machine.execScBgeu n s
  | .scJal n => Sys2Proof.Machine.execScJal n s
  | .scJalr n => Sys2Proof.Machine.execScJalr n s
  | .scSemwait n => Sys2Proof.Machine.execScSemwait n s
  | .scSemtry n => Sys2Proof.Machine.execScSemtry n s
  | .scSemadd n => Sys2Proof.Machine.execScSemadd n s
  | .scSemrd n => Sys2Proof.Machine.execScSemrd n s
  | .semaphoreWaitGrant tile sem => Sys2Proof.Machine.execSemaphoreWaitGrant tile sem s
  | .scRdc n => Sys2Proof.Machine.execScRdc n s
  | .scWrc n => Sys2Proof.Machine.execScWrc n s
  | .scFence n => Sys2Proof.Machine.execScFence n s
  | .scLaunch n => Sys2Proof.Machine.execScLaunch n s
  | .scChopen n => Sys2Proof.Machine.execScChopen n s
  | .scChsend n => Sys2Proof.Machine.execScChsend n s
  | .scChwait n => Sys2Proof.Machine.execScChwait n s
  | .scChack n => Sys2Proof.Machine.execScChack n s
  | .scChrel n => Sys2Proof.Machine.execScChrel n s
  | .channelRecordVisible ctx h idx => Sys2Proof.Machine.execChannelRecordVisible ctx h idx s
  | .chwaitTimeout n => Sys2Proof.Machine.execChwaitTimeout n s
  | .fullTimeout n => Sys2Proof.Machine.execFullTimeout n s
  | .scIcpacq n => Sys2Proof.Machine.execScIcpacq n s
  | .scIcpload n => Sys2Proof.Machine.execScIcpload n s
  | .scIcprel n => Sys2Proof.Machine.execScIcprel n s
  | .scDone n => Sys2Proof.Machine.execScDone n s
  | .icpLockBreak => Sys2Proof.Machine.execIcpLockBreak s
  | .descriptorBurstArrive tile q => Sys2Proof.Machine.execDescriptorBurstArrive tile q s
  | .transferStart tile q => Sys2Proof.Machine.execTransferStart tile q s
  | .transferComplete tile q seq => Sys2Proof.Machine.execTransferComplete tile q seq s
  | .completionMessageArrive idx => Sys2Proof.Machine.execCompletionMessageArrive idx s
  | .syncDescriptor tile q => Sys2Proof.Machine.execSyncDescriptor tile q s
  | .fenceDescriptor tile q => Sys2Proof.Machine.execFenceDescriptor tile q s
  | .fenceDescriptorEnd tile q => Sys2Proof.Machine.execFenceDescriptorEnd tile q s
  | .dependenceMark tile q => Sys2Proof.Machine.execDependenceMark tile q s
  | .carouselDescriptor tile q => Sys2Proof.Machine.execCarouselDescriptor tile q s
  | .matrixSegmentStart tile => Sys2Proof.Machine.execMatrixSegmentStart tile s
  | .chunkLoaded tile => Sys2Proof.Machine.execChunkLoaded tile s
  | .passStart tile => Sys2Proof.Machine.execPassStart tile s
  | .cellProduct tile cell => Sys2Proof.Machine.execCellProduct tile cell s
  | .passEnd tile => Sys2Proof.Machine.execPassEnd tile s
  | .fixDrainRecord tile => Sys2Proof.Machine.execFixDrainRecord tile s
  | .longFormStallEnd tile => Sys2Proof.Machine.execLongFormStallEnd tile s
  | .drainDescriptorTake tile => Sys2Proof.Machine.execDrainDescriptorTake tile s
  | .finaliseBlock tile => Sys2Proof.Machine.execFinaliseBlock tile s
  | .drainWritesDone tile => Sys2Proof.Machine.execDrainWritesDone tile s
  | .vectorDescriptorStart tile => Sys2Proof.Machine.execVectorDescriptorStart tile s
  | .vectorDescriptorComplete tile seq => Sys2Proof.Machine.execVectorDescriptorComplete tile seq s
  | .memTileRequest mt bank cycle => Sys2Proof.Machine.execMemTileRequest mt bank cycle s
  | .memSideUpdate idx => Sys2Proof.Machine.execMemSideUpdate idx s
  | .eccWriteBack mt bank => Sys2Proof.Machine.execEccWriteBack mt bank s
  | .memoryScrub unit => Sys2Proof.Machine.execMemoryScrub unit s
  | .postedNotify n x => Sys2Proof.Machine.execPostedNotify n x s
  | .tokenHead tile qid => Sys2Proof.Machine.execTokenHead tile qid s
  | .steerFire tile unit => Sys2Proof.Machine.execSteerFire tile unit s
  | .slideChangeStart tile => Sys2Proof.Machine.execSlideChangeStart tile s
  | .slideChangeDone tile => Sys2Proof.Machine.execSlideChangeDone tile s
  | .commitArrive tile => Sys2Proof.Machine.execCommitArrive tile s
  | .tileSwitch tile => Sys2Proof.Machine.execTileSwitch tile s
  | .icpLoadDone => Sys2Proof.Machine.execIcpLoadDone s
  | .groomerRecord d => Sys2Proof.Machine.execGroomerRecord d s
  | .groomerBlockArrive d => Sys2Proof.Machine.execGroomerBlockArrive d s
  | .wcWriteIssue d => Sys2Proof.Machine.execWcWriteIssue d s
  | .groomerGoWord d entry => Sys2Proof.Machine.execGroomerGoWord d entry s
  | .shardReduceDone d entry => Sys2Proof.Machine.execShardReduceDone d entry s
  | .digestFlagOrDone d entry => Sys2Proof.Machine.execDigestFlagOrDone d entry s
  | .holdoffEnd => Sys2Proof.Machine.execHoldoffEnd s
  | .portUp p mid domain => Sys2Proof.Machine.execPortUp p mid domain s
  | .portRetrain p => Sys2Proof.Machine.execPortRetrain p s
  | .portRestore p => Sys2Proof.Machine.execPortRestore p s
  | .portDisable p => Sys2Proof.Machine.execPortDisable p s
  | .laneLockLoss p => Sys2Proof.Machine.execLaneLockLoss p s
  | .linkTimeout p => Sys2Proof.Machine.execLinkTimeout p s
  | .portUpTimeout p => Sys2Proof.Machine.execPortUpTimeout p s
  | .slotMoveDone mid slot => Sys2Proof.Machine.execSlotMoveDone mid slot s
  | .linkWakeDone p => Sys2Proof.Machine.execLinkWakeDone p s
  | .flitIdle p f => Sys2Proof.Machine.execFlitIdle p f s
  | .idleTimer p => Sys2Proof.Machine.execIdleTimer p s
  | .flitRetry p f => Sys2Proof.Machine.execFlitRetry p f s
  | .flitReadReq p f => Sys2Proof.Machine.execFlitReadReq p f s
  | .flitReadResp p f => Sys2Proof.Machine.execFlitReadResp p f s
  | .flitWrite p f => Sys2Proof.Machine.execFlitWrite p f s
  | .flitXacc p f => Sys2Proof.Machine.execFlitXacc p f s
  | .flitAck p f => Sys2Proof.Machine.execFlitAck p f s
  | .flitNack p f => Sys2Proof.Machine.execFlitNack p f s
  | .flitReady p f => Sys2Proof.Machine.execFlitReady p f s
  | .flitAlive p f => Sys2Proof.Machine.execFlitAlive p f s
  | .flitAbandon p f => Sys2Proof.Machine.execFlitAbandon p f s
  | .flitCollData p f => Sys2Proof.Machine.execFlitCollData p f s
  | .flitFault p f => Sys2Proof.Machine.execFlitFault p f s
  | .remoteAccessTimeout txn => Sys2Proof.Machine.execRemoteAccessTimeout txn s
  | .collectiveTimeout x idx rank => Sys2Proof.Machine.execCollectiveTimeout x idx rank s
  | .aliveInterval x => Sys2Proof.Machine.execAliveInterval x s
  | .windowLeaseExpire w => Sys2Proof.Machine.execWindowLeaseExpire w s
  | .collectiveComplete x idx => Sys2Proof.Machine.execCollectiveComplete x idx s
  | .winCmdRead => Sys2Proof.Machine.execWinCmdRead s
  | .winCmdWrite => Sys2Proof.Machine.execWinCmdWrite s
  | .winCmdClose => Sys2Proof.Machine.execWinCmdClose s
  | .routeCmdRead => Sys2Proof.Machine.execRouteCmdRead s
  | .routeCmdWrite => Sys2Proof.Machine.execRouteCmdWrite s
  | .powerOn => Sys2Proof.Machine.execPowerOn s
  | .porEnd startMode mid => Sys2Proof.Machine.execPorEnd startMode mid s
  | .hbmReady => Sys2Proof.Machine.execHbmReady s
  | .loadHeader => Sys2Proof.Machine.execLoadHeader s
  | .loadSegment => Sys2Proof.Machine.execLoadSegment s
  | .loadChecks => Sys2Proof.Machine.execLoadChecks s
  | .activation => Sys2Proof.Machine.execActivation s
  | .moduleStart => Sys2Proof.Machine.execModuleStart s
  | .getReport => Sys2Proof.Machine.execGetReport s
  | .getCert => Sys2Proof.Machine.execGetCert s
  | .mboxRelease => Sys2Proof.Machine.execMboxRelease s
  | .mboxReportDone => Sys2Proof.Machine.execMboxReportDone s
  | .mboxLock v => Sys2Proof.Machine.execMboxLock v s
  | .mboxLockBreak => Sys2Proof.Machine.execMboxLockBreak s
  | .raiseFloor => Sys2Proof.Machine.execRaiseFloor s
  | .flashErase sector => Sys2Proof.Machine.execFlashErase sector s
  | .flashEraseDone => Sys2Proof.Machine.execFlashEraseDone s
  | .flashWrite off data => Sys2Proof.Machine.execFlashWrite off data s
  | .flashPageProgrammed => Sys2Proof.Machine.execFlashPageProgrammed s
  | .safeWarmReset => Sys2Proof.Machine.execSafeWarmReset s
  | .safeReload => Sys2Proof.Machine.execSafeReload s
  | .warmReset cause => Sys2Proof.Machine.execWarmReset cause s
  | .warmResetEnd => Sys2Proof.Machine.execWarmResetEnd s
  | .perstNRelease mid => Sys2Proof.Machine.execPerstNRelease mid s
  | .vfFlr t => Sys2Proof.Machine.execVfFlr t s
  | .rcRegisterRead fn p be => Sys2Proof.Machine.execRcRegisterRead fn p be s
  | .aliasAccess off wr v => Sys2Proof.Machine.execAliasAccess off wr v s
  | .pairLoRead off => Sys2Proof.Machine.execPairLoRead off s
  | .pairHiWrite off v => Sys2Proof.Machine.execPairHiWrite off v s
  | .registerWrite fn p v be => Sys2Proof.Machine.execRegisterWrite fn p v be s
  | .grmPositionWrite d v => Sys2Proof.Machine.execGrmPositionWrite d v s
  | .clearHalt mask => Sys2Proof.Machine.execClearHalt mask s
  | .fltClear => Sys2Proof.Machine.execFltClear s
  | .fltInject v => Sys2Proof.Machine.execFltInject v s
  | .meterTake => Sys2Proof.Machine.execMeterTake s
  | .meterConfigWrite off v => Sys2Proof.Machine.execMeterConfigWrite off v s
  | .meterPeriod => Sys2Proof.Machine.execMeterPeriod s
  | .parityScan => Sys2Proof.Machine.execParityScan s
  | .fatalFault code unit tile addr => Sys2Proof.Machine.execFatalFault code unit tile addr s
  | .hostCompletionTimeout => Sys2Proof.Machine.execHostCompletionTimeout s
  | .safeWatchdog => Sys2Proof.Machine.execSafeWatchdog s
  | .clockLoss which => Sys2Proof.Machine.execClockLoss which s
  | .thermalTick temps => Sys2Proof.Machine.execThermalTick temps s
  | .railSample mv ma => Sys2Proof.Machine.execRailSample mv ma s
  | .powerCapTick watts => Sys2Proof.Machine.execPowerCapTick watts s
  | .powerLoss => Sys2Proof.Machine.execPowerLoss s
  | .smbLoadStatus => Sys2Proof.Machine.execSmbLoadStatus s
  | .smbFaultStatus => Sys2Proof.Machine.execSmbFaultStatus s
  | .smbIdentity => Sys2Proof.Machine.execSmbIdentity s
  | .smbEnvStatus => Sys2Proof.Machine.execSmbEnvStatus s
  | .smbTemperatures => Sys2Proof.Machine.execSmbTemperatures s
  | .smbCoolant => Sys2Proof.Machine.execSmbCoolant s
  | .smbRails => Sys2Proof.Machine.execSmbRails s
  | .smbPower => Sys2Proof.Machine.execSmbPower s
  | .smbThrottle => Sys2Proof.Machine.execSmbThrottle s
  | .smbPowerCapRead => Sys2Proof.Machine.execSmbPowerCapRead s
  | .smbPowerCapWrite v => Sys2Proof.Machine.execSmbPowerCapWrite v s
  | .fenceComplete n => Sys2Proof.Machine.execFenceComplete n s
  | .scIllegal n => Sys2Proof.Machine.execScIllegal n s
  | .badCrc p => Sys2Proof.Machine.execBadCrc p s
  | .portEnable p => Sys2Proof.Machine.execPortEnable p s
  | .safeSleepCtrlWrite v => Sys2Proof.Machine.execSafeSleepCtrlWrite v s
  | .cmdReject which => Sys2Proof.Machine.execCmdReject which s
  | .mboxFormat v => Sys2Proof.Machine.execMboxFormat v s
  | .doneNLineChange level => Sys2Proof.Machine.execDoneNLineChange level s
  | .pwrgdLowHoldEnd => Sys2Proof.Machine.execPwrgdLowHoldEnd s
  | .pcieLinkState l => Sys2Proof.Machine.execPcieLinkState l s
  | .d3hot fn enter => Sys2Proof.Machine.execD3hot fn enter s
  | .boundaryScan ir => Sys2Proof.Machine.execBoundaryScan ir s

end Sys2Proof.Machine
end

