-- ==== Sys2Proof/Safety.lean ====
section
/-! DEFINITION. The terms statements use: what it is to answer, S-cores about to execute a word, the state an S-core instruction
leaves, the invariants of the non-volatile parts, and the parts of the state a command leaves alone. -/

namespace Sys2Proof.Machine

/-- The command completes at s and its next state has the property. -/
def Answers (c : Instr) (s : State) (P : State → Prop) : Prop := ∃ t, exec c s = .next t ∧ P t

/-- S-core n is about to execute the word w of opcode op: it runs, is not blocked, the word lies in the program area with its
successor, and no register it names awaits a load (R119, R120, R123). -/
def ScAt (s : State) (n w op : Nat) : Prop :=
  n < 64 ∧ (s.m.s n).running = true ∧ (s.m.s n).block = .none ∧ (s.m.s n).pc + 4 < 0x30000 ∧ s.m.scWord n = w ∧
  fld w 31 26 = op ∧ (namesOf w).all (fun r => (s.m.s n).loads.all (fun l => l.rd != r)) = true

/-- Register r of S-core n (R118). -/
def State.gr (s : State) (n r : Nat) : Word := (s.m.s n).getG r

/-- s with S-core n replaced: nothing else differs. -/
def State.putSc (s : State) (n : Nat) (c : SCore) : State := { s with m := { s.m with sc := tset s.m.sc n c } }

/-- s after S-core n wrote v to register r (g0 ignores it) and went on to the next word (R118, R123). -/
def State.scWrote (s : State) (n r : Nat) (v : Word) : State :=
  s.putSc n { s.m.s n with g := if r = 0 then (s.m.s n).g else tset (s.m.s n).g r v, pc := (s.m.s n).pc + 4 }

/-- s after S-core n continued at an address. -/
def State.scJumped (s : State) (n pc : Nat) : State := s.putSc n { s.m.s n with pc := pc }

/-- The non-volatile parts are in form: the flash is in canonical form and lists no erased byte, and the write buffer holds at most
4096 bytes (R330, R370). -/
def NonVol.Inv (v : NonVol) : Prop := Mem.wfD 0xFF v.flash = true ∧ v.buf.length ≤ 4096

/-- Device memory and host memory are in canonical form. -/
def Mod.MemInv (m : Mod) : Prop := Mem.wfD 0 m.mem = true ∧ Mem.wfD 0 m.hmem = true

/-- One byte of device memory. -/
def State.byte (s : State) (a : Nat) : Byte := mget 0 s.m.mem a

/-- No write or update is on its way: nothing waits at a memory tile, for HBM or LPDDR-5X, or for a die to wake (R21, R144, R149). -/
abbrev State.still (s : State) : Prop := (∀ p ∈ s.m.tile, p.2.reqs = []) ∧ s.m.upd = [] ∧ s.m.far = []

/-- No injected error is pending, no fault is contained, every register's parity agrees, and no update on its way leads outside the address
map: nothing that a memory serves on the way, and no register used, stops the module (R386, R406, R415). -/
abbrev State.sound (s : State) : Prop :=
  s.m.mon.inject = none ∧ s.m.mon.fltState = 0 ∧ s.m.reg.parityOk = true ∧ ∀ u ∈ s.m.upd, targetOf u.addr ≠ .none

/-- Every mapped range can be read at once for context c: nothing stops a read, no write is on its way, no die is in DEEP or on its way there,
and every memory tile is open to its tenancy (R21, R140, R404). -/
abbrev State.readable (s : State) (c : Nat) : Prop :=
  s.sound ∧ s.still ∧ (∀ d, d < 6 → s.m.sleeps d = false) ∧ ∀ mt, mt < 288 → s.m.tenOk mt (tenOf c) = true

/-- A host access takes effect at once: an image is active, the PF answers, and no earlier access waits (R216, R347, R374). -/
abbrev State.hostFree (s : State) : Prop := s.m.opened = true ∧ s.m.hostReach 0 = true ∧ s.m.sleepers = []

/-- A flit with the property stands at port q: sent and not yet acknowledged, or queued (R300, R301). -/
def State.queued (s : State) (q : Nat) (P : Flit → Prop) : Prop := (∃ f ∈ (s.m.port q).retry, P f) ∨ (∃ f ∈ (s.m.port q).txq, P f.2)

/-- Flits to a destination have a live route and none of its slots is moving (R303 to R305). -/
def State.routed (s : State) (dst : Nat) : Prop := s.m.reachable dst = true ∧ ∀ k, tget? s.m.ers.moving (16 * dst + k) = none

/-- No die is in DEEP on the way of a lane's flits from a die to a port (R21, R305). -/
def State.wayClear (s : State) (src vl p : Nat) : Prop := ∀ f : Flit, f.vl = vl → ∀ d ∈ wayDies src p f, s.m.sleeps d = false

/-- A numbered flit of a type arrives in order for this module at a port that is up with nothing queued (R300, R302). -/
def State.hearsFlit (s : State) (p typ : Nat) (f : Flit) : Prop :=
  p < 32 ∧ s.m.mon.fltState = 0 ∧ s.m.ld.phase ≠ 7 ∧ (s.m.port p).st = 2 ∧ f.typ = typ ∧ f.lseq = (s.m.port p).rxSeq ∧ f.dst = s.m.ers.mid ∧
  (s.m.port p).txq = []

/-- No M-core has a block in hand. -/
abbrev State.noBlock (s : State) : Prop := ∀ p ∈ s.m.tile, p.2.mc.blk = none ∧ p.2.mc.prev = none

/-- What a command of context c issued is done, nothing waits to be dispatched, and the context's entry and accounting record lie apart in
device memory that the safelight can reach: the resolution of the command writes those two alone (R25, R253). -/
def State.settled (s : State) (c : Nat) : Prop :=
  s.sound ∧ s.still ∧ s.noBlock ∧ s.m.ers.coll = [] ∧ s.m.icp.pend = [] ∧ s.m.candidates = [] ∧
  (∀ d, d < 4 → (s.m.g d).ctx = some c → (s.m.g d).stage = [] ∧ (s.m.g d).closing = none) ∧
  mapped (s.m.ctxAddr c) 64 = true ∧ mapped (s.m.cx c).acct 256 = true ∧
  s.m.awake 4 (s.m.ctxAddr c) 64 = true ∧ s.m.awake 4 (s.m.cx c).acct 256 = true ∧
  ((s.m.cx c).acct + 256 ≤ s.m.ctxAddr c ∨ s.m.ctxAddr c + 64 ≤ (s.m.cx c).acct) ∧ Mem.wfD 0 s.m.mem = true

/-- Command j of context c stands resolved in t: in the safelight's state and in the completion word of its entry (R25, R257). -/
def State.resolvedAs (t : State) (c j outcome reason : Nat) : Prop :=
  (t.m.cx c).run = none ∧ (t.m.cx c).word = doneWord j outcome reason ∧ (t.m.cx c).consumer = (j + 1) % 2 ^ 32 ∧
  tget? (t.m.cx c).past j = some outcome ∧ t.m.rdn (t.m.ctxAddr c + 16) 8 = doneWord j outcome reason % 2 ^ 64 ∧
  t.m.rdn (t.m.ctxAddr c + 24) 4 = (j + 1) % 2 ^ 32

/-- A fatal fault of a code is contained: latched, FAULT_N low, nothing runs and no image is active (R408, R410, R414). -/
def State.contained (t : State) (code : Nat) : Prop :=
  t.m.mon.fltState = 2 ∧ t.m.mon.was = true ∧ t.m.mon.first % 65536 = code ∧ t.m.pw.faultLow = true ∧ t.m.ld.active = false ∧
  t.m.chan = [] ∧ (∀ n, (t.m.s n).running = false) ∧ t.m.pw.alert.testBit 1 = true

/-- No fault is contained or latched (R414). -/
def State.unfaulted (s : State) : Prop := s.m.mon.fltState = 0 ∧ s.m.mon.first % 65536 = 0

/-- The load attempt failed with a code (R348 to R350): it is recorded and shown, and the load starts again, or has failed for good. -/
def State.loadFailed (s t : State) (code : Nat) : Prop :=
  t.m.ld.code = code ∧ t.m.ld.attempt = s.m.ld.attempt + 1 ∧ (t.m.rg 0x20).testBit 2 = true ∧ t.m.pw.alert.testBit 0 = true ∧
  t.m.ld.phase = (if retried code = true ∧ s.m.ld.attempt < 3 then 1 else 7)

end Sys2Proof.Machine
end

