-- ==== Sys2Proof/WellFormed.lean ====
section
/-! DEFINITION. Which operands a command can carry: numbers of dies, tiles, ports, functions and registers in the ranges the
spec gives them. The meanings are total; an ill-formed command names nothing that exists. -/

namespace Sys2Proof

open Sys2Proof.Machine

/-- Every field of a flit fits its width (Table 12.2) and the payload is at most 224 bytes. -/
def Flit.wf (f : Flit) : Bool :=
  decide (f.typ < 256) && decide (f.vl < 8) && decide (f.hops < 32) && decide (f.dst < 1024) && decide (f.src < 1024) &&
  decide (f.txn < 65536) && decide (f.keyA < 2 ^ 16) && decide (f.keyB < 2 ^ 32) && decide (f.keyC < 2 ^ 64) &&
  decide (f.payload.length ≤ 224) && decide (f.lseq < 4096) && decide (f.lack < 4096) && decide (f.creditVl < 8) &&
  decide (f.credits < 32)

/-- A tile identity of a kind (R10, R11). -/
def isKind (k : TileKind) (t : Nat) : Bool := kindOf t == k
/-- A core with engine queues (R126). -/
def isCore (t : Nat) : Bool := isKind .mcore t || isKind .vcore t
/-- An engine queue of a core. -/
def isQueue (t q : Nat) : Bool := isCore t && decide (q < 4) && (isKind .mcore t || q != 2)

/-- The command's operands lie in the ranges the spec gives them. -/
def Instr.wf : Instr → Bool
  | .hostBar2Write fn off _ data => decide (fn < 64) && decide (0 < data.length) && decide (off + data.length ≤ 2 ^ 48)
  | .hostBar2Read fn off len => decide (fn < 64) && decide (0 < len) && decide (off + len ≤ 2 ^ 48)
  | .workBitmapWrite fn off data => decide (fn < 64) && decide (off + data.length ≤ 16384)
  | .contextEntryRead c | .commandRecordRead c | .wakeToRunDone c | .abortDrainDone c => decide (c < 65536)
  | .wakeToNapDone d | .idleNapExpire d | .idleDeepExpire d | .napEntryDone d | .deepEntryDone d => decide (d < 6)
  | .tileUngateDone mt | .tileRegate mt => decide (mt < 288)
  | .doneReport n | .scAdd n | .scSub n | .scAnd n | .scOr n | .scXor n | .scSll n | .scSrl n | .scSra n | .scSlt n | .scSltu n
  | .scMul n | .scMulh n | .scMulhu n | .scDiv n | .scDivu n | .scRem n | .scRemu n | .scAddi n | .scAndi n | .scOri n
  | .scXori n | .scSlti n | .scSlli n | .scSrli n | .scSrai n | .scLui n | .scLdb n | .scLdbu n | .scLdh n | .scLdhu n
  | .scLdw n | .scStb n | .scSth n | .scStw n | .scBeq n | .scBne n | .scBlt n | .scBge n | .scBltu n | .scBgeu n | .scJal n
  | .scJalr n | .scSemwait n | .scSemtry n | .scSemadd n | .scSemrd n | .scRdc n | .scWrc n | .scFence n | .scLaunch n
  | .scChopen n | .scChsend n | .scChwait n | .scChack n | .scChrel n | .chwaitTimeout n | .fullTimeout n | .scIcpacq n
  | .scIcpload n | .scIcprel n | .scDone n | .fenceComplete n | .scIllegal n => decide (n < 64)
  | .apertureLoadReturn n rd => decide (n < 64) && decide (rd < 32)
  | .semaphoreWaitGrant t sem => (isCore t || isKind .score t) && decide (sem < 32)
  | .channelRecordVisible c h _ => decide (c < 65536) && decide (h < 16384)
  | .descriptorBurstArrive t q | .transferStart t q | .syncDescriptor t q | .fenceDescriptor t q | .fenceDescriptorEnd t q
  | .dependenceMark t q | .carouselDescriptor t q => isQueue t q
  | .transferComplete t q _ => isQueue t q
  | .matrixSegmentStart t | .chunkLoaded t | .passStart t | .passEnd t | .fixDrainRecord t | .longFormStallEnd t
  | .drainDescriptorTake t | .finaliseBlock t | .drainWritesDone t => isKind .mcore t
  | .cellProduct t cell => isKind .mcore t && decide (cell < 16384)
  | .vectorDescriptorStart t => isKind .vcore t
  | .vectorDescriptorComplete t _ => isKind .vcore t
  | .memTileRequest mt bank _ | .eccWriteBack mt bank => decide (mt < 288) && decide (bank < 16)
  | .memoryScrub u => decide (u < 294) || (decide (1024 ≤ u) && decide (u < 2048) && !isKind .none (u - 1024)) ||
    (decide (4096 ≤ u) && decide (u < 4128) && decide (u % 8 < 6))
  | .postedNotify n x => decide (n < 64) && decide (x < 2)
  | .tokenHead t q => !isKind .none t && decide (q < 40)
  | .steerFire t u => !isKind .none t && decide (u < 4)
  | .slideChangeStart t | .slideChangeDone t | .commitArrive t | .tileSwitch t => !isKind .none t
  | .groomerRecord d | .groomerBlockArrive d | .wcWriteIssue d => decide (d < 4)
  | .groomerGoWord d e | .shardReduceDone d e | .digestFlagOrDone d e => decide (d < 4) && decide (e < 65536)
  | .portUp p mid dom => decide (p < 32) && decide (mid < 1024) && decide (dom < 65536)
  | .portRetrain p | .portRestore p | .portDisable p | .laneLockLoss p | .linkTimeout p | .portUpTimeout p | .linkWakeDone p
  | .idleTimer p | .badCrc p | .portEnable p => decide (p < 32)
  | .slotMoveDone mid slot => decide (mid < 1024) && decide (slot < 16)
  | .flitIdle p f | .flitRetry p f | .flitReadReq p f | .flitReadResp p f | .flitWrite p f | .flitXacc p f | .flitAck p f
  | .flitNack p f | .flitReady p f | .flitAlive p f | .flitAbandon p f | .flitCollData p f | .flitFault p f =>
    decide (p < 32) && f.wf
  | .collectiveTimeout x _ mid => decide (x < 2) && decide (mid < 1024)
  | .collectiveComplete x _ | .aliveInterval x => decide (x < 2)
  | .windowLeaseExpire w => decide (w < 4096)
  | .porEnd _ mid | .perstNRelease mid => decide (mid < 1024)
  | .mboxLock v | .fltInject v | .safeSleepCtrlWrite v | .mboxFormat v => decide (v < 2 ^ 32)
  | .grmPositionWrite d v => decide (d < 4) && decide (v < 2 ^ 64)
  | .smbPowerCapWrite w => decide (w.v < 65536) && w.pec.all (fun p => decide (p < 256))
  | .flashErase k => decide (k < 4096)
  | .flashWrite off data => decide (off + data.length ≤ 2 ^ 28) && decide (0 < data.length)
  | .warmReset c => decide (c < 3)
  | .vfFlr t => decide (t < 64)
  | .rcRegisterRead fn p be => decide (fn < 64) && decide (p.off < 2 ^ 28) && decide (be < 16)
  | .aliasAccess off _ v => decide (off < 2 ^ 27) && decide (v < 2 ^ 32)
  | .pairLoRead off => decide (off < 2 ^ 27)
  | .pairHiWrite off v | .meterConfigWrite off v => decide (off < 2 ^ 27) && decide (v < 2 ^ 32)
  | .registerWrite fn p v be => decide (fn < 64) && decide (p.off < 2 ^ 28) && decide (v < 2 ^ 32) && decide (be < 16)
  | .clearHalt mask => decide (mask < 16)
  | .fatalFault code unit tile addr => decide (code < 65536) && decide (unit < 8) && decide (tile < 1024) && decide (addr < 2 ^ 48)
  | .clockLoss w => decide (w < 10)
  | .thermalTick ts => decide (ts.length = 51)
  | .railSample mv ma => decide (mv.length = 11) && decide (ma.length = 11)
  | .cmdReject w => decide (w < 2)
  | .pcieLinkState l => decide (l.st < 4) && [4, 8, 16].contains l.width
  | .d3hot fn _ => decide (fn < 64)
  | .boundaryScan x => decide (x.low < 32)
  | .completionMessageArrive _ | .memSideUpdate _ | .remoteAccessTimeout _ | .powerCapTick _
  | .safelightPoll | .startChecks | .commandFaultEvent | .icpLockBreak | .icpLoadDone | .holdoffEnd | .winCmdRead | .winCmdWrite
  | .winCmdClose | .routeCmdRead | .routeCmdWrite | .powerOn | .hbmReady | .loadHeader | .loadSegment | .loadChecks | .activation
  | .moduleStart | .getReport | .getCert | .mboxRelease | .mboxReportDone | .mboxLockBreak | .raiseFloor | .flashEraseDone
  | .flashPageProgrammed | .safeWarmReset | .safeReload | .warmResetEnd | .fltClear | .meterTake | .meterPeriod | .parityScan
  | .hostCompletionTimeout | .safeWatchdog | .powerLoss | .smbLoadStatus | .smbFaultStatus | .smbIdentity | .smbEnvStatus
  | .smbTemperatures | .smbCoolant | .smbRails | .smbPower | .smbThrottle | .smbPowerCapRead | .doneNLineChange _
  | .pwrgdLowHoldEnd => true

end Sys2Proof
end

