-- ==== Sys2Proof/Certificates/Slice0/Obligations.lean ====
section
/-! DEFINITION. The statements for the provers. A statement over several commands is a conjunction of claims, each named under
Claims and stated above it. -/

open Sys2Proof Sys2Proof.Machine

/-! Steps, reset and the idle block. -/

/-- The block's own rule: a step with command c in front is exec of c on the state with the queue's rest. -/
def Obligations.StepRunsFrontCommand : Prop :=
  ∀ (c : Instr) (s : State), Machine.step { s with pending := c :: s.pending } = exec c s

/-- Of the model (log entry 6): on an empty queue one SAFECLK cycle passes; a module that waits at the gate for the shared line counts
its high samples up to 8 (R353), and nothing else differs. -/
def Obligations.IdleStepPassesOneCycle : Prop :=
  ∀ s : State, s.pending = [] →
    Machine.step s = .next { s with m := { s.m with
      time := s.m.time + 1,
      ld := if s.m.ld.phase = 5 ∧ s.m.pw.startMode = false then
          { s.m.ld with high := if s.m.sinks 1 = false ∧ s.m.pw.lineLow = false then min 8 (s.m.ld.high + 1) else 0 }
        else s.m.ld } }

/-! S-core arithmetic (R118, R123, R124). -/

/-- Every function of Table 5.11: rd takes the result, the pc moves on by a word, and nothing else of the state differs. -/
def Sys2Proof.Claims.ScalarRegisterOperations : Prop :=
  ∀ (s : State) (n w : Nat) (a b : Word), ScAt s n w 0 → s.gr n (fld w 20 16) = a → s.gr n (fld w 15 11) = b →
    let gives (c : Nat → Instr) (fn : Nat) (v : Word) : Prop := fld w 10 0 = fn → exec (c n) s = .next (s.scWrote n (fld w 25 21) v)
    gives .scAdd 0x0 (BitVec.ofNat 32 (a.toNat + b.toNat)) ∧
    gives .scSub 0x1 (BitVec.ofInt 32 (a.toInt - b.toInt)) ∧
    gives .scAnd 0x2 (a &&& b) ∧ gives .scOr 0x3 (a ||| b) ∧ gives .scXor 0x4 (a ^^^ b) ∧
    gives .scSll 0x5 (BitVec.ofNat 32 (a.toNat * 2 ^ (b.toNat % 32))) ∧
    gives .scSrl 0x6 (BitVec.ofNat 32 (a.toNat / 2 ^ (b.toNat % 32))) ∧
    gives .scSra 0x7 (BitVec.ofInt 32 (a.toInt / 2 ^ (b.toNat % 32))) ∧
    gives .scSlt 0x8 (if a.toInt < b.toInt then 1 else 0) ∧
    gives .scSltu 0x9 (if a.toNat < b.toNat then 1 else 0) ∧
    gives .scMul 0xA (BitVec.ofInt 32 (a.toInt * b.toInt)) ∧
    gives .scMulh 0xB (BitVec.ofInt 32 (a.toInt * b.toInt / 2 ^ 32)) ∧
    gives .scMulhu 0xC (BitVec.ofNat 32 (a.toNat * b.toNat / 2 ^ 32)) ∧
    gives .scDiv 0xD (if b = 0 then 0xFFFFFFFF else BitVec.ofInt 32 (Int.tdiv a.toInt b.toInt)) ∧
    gives .scDivu 0xE (if b = 0 then 0xFFFFFFFF else BitVec.ofNat 32 (a.toNat / b.toNat)) ∧
    gives .scRem 0xF (if b = 0 then a else BitVec.ofInt 32 (Int.tmod a.toInt b.toInt)) ∧
    gives .scRemu 0x10 (if b = 0 then a else BitVec.ofNat 32 (a.toNat % b.toNat))

/-- Every immediate operation of Table 5.10 (opcodes 0x01 to 0x09): imm16 is sign-extended but for ANDI, ORI and XORI. -/
def Sys2Proof.Claims.ScalarImmediateOperations : Prop :=
  ∀ (s : State) (n w op : Nat) (a : Word), ScAt s n w op → s.gr n (fld w 20 16) = a →
    let i := fld w 15 0
    let si : Int := if i < 32768 then i else (i : Int) - 65536
    let gives (c : Nat → Instr) (o : Nat) (v : Word) : Prop := op = o → exec (c n) s = .next (s.scWrote n (fld w 25 21) v)
    gives .scAddi 1 (BitVec.ofInt 32 (a.toInt + si)) ∧
    gives .scAndi 2 (a &&& BitVec.ofNat 32 i) ∧ gives .scOri 3 (a ||| BitVec.ofNat 32 i) ∧
    gives .scXori 4 (a ^^^ BitVec.ofNat 32 i) ∧
    gives .scSlti 5 (if a.toInt < si then 1 else 0) ∧
    gives .scSlli 6 (BitVec.ofNat 32 (a.toNat * 2 ^ (i % 32))) ∧
    gives .scSrli 7 (BitVec.ofNat 32 (a.toNat / 2 ^ (i % 32))) ∧
    gives .scSrai 8 (BitVec.ofInt 32 (a.toInt / 2 ^ (i % 32))) ∧
    gives .scLui 9 (BitVec.ofNat 32 (i * 65536))

/-- Branches and jumps: the target counts words from the next instruction; JAL and JALR write the next address; JALR clears the two
low bits. The target lies in the program area. -/
def Obligations.ScalarControlTransfer : Prop :=
  ∀ (s : State) (n w op : Nat) (x y : Word), ScAt s n w op → s.gr n (fld w 25 21) = x → s.gr n (fld w 20 16) = y →
    let pc := (s.m.s n).pc
    let off16 : Int := if fld w 15 0 < 32768 then fld w 15 0 else (fld w 15 0 : Int) - 65536
    let off26 : Int := if fld w 25 0 < 33554432 then fld w 25 0 else (fld w 25 0 : Int) - 67108864
    let br (c : Nat → Instr) (o : Nat) (b : Prop) : Prop := op = o →
      (¬ b → exec (c n) s = .next (s.scJumped n (pc + 4))) ∧
      (b → ∀ t : Nat, (t : Int) = pc + 4 + 4 * off16 → t < 0x30000 → exec (c n) s = .next (s.scJumped n t))
    br .scBeq 0x14 (x = y) ∧ br .scBne 0x15 (x ≠ y) ∧ br .scBlt 0x16 (x.toInt < y.toInt) ∧ br .scBge 0x17 (y.toInt ≤ x.toInt) ∧
    br .scBltu 0x18 (x.toNat < y.toNat) ∧ br .scBgeu 0x19 (y.toNat ≤ x.toNat) ∧
    (op = 0x1A → ∀ t : Nat, (t : Int) = pc + 4 + 4 * off26 → t < 0x30000 →
      exec (.scJal n) s = .next ((s.scWrote n 31 (BitVec.ofNat 32 (pc + 4))).scJumped n t)) ∧
    (op = 0x1B → ∀ t : Nat, (t : Int) = (y.toInt + off16) % 2 ^ 32 / 4 * 4 → t < 0x30000 →
      exec (.scJalr n) s = .next ((s.scWrote n (fld w 25 21) (BitVec.ofNat 32 (pc + 4))).scJumped n t))

/-- Loads and stores of the private SRAM (R119): the bytes at ra + imm, little-endian, extended; a store changes those bytes of the
data area and nothing else. -/
def Obligations.ScalarPrivateSram : Prop :=
  ∀ (s : State) (n w op a : Nat), ScAt s n w op →
    a = (s.gr n (fld w 20 16) + (BitVec.ofNat 16 (fld w 15 0)).signExtend 32).toNat →
    let c := s.m.s n
    let at_ (size : Nat) : Nat :=
      if a < 0x30000 then leNat (mread 0 (s.m.t (scTile n)).prog a size) else leNat (mread 0 c.data (a - 0x30000) size)
    let ld (i : Nat → Instr) (o size : Nat) (v : Word) : Prop :=
      op = o → a < 0x40000 → a % size = 0 → exec (i n) s = .next (s.scWrote n (fld w 25 21) v)
    let st (i : Nat → Instr) (o size : Nat) : Prop :=
      op = o → 0x30000 ≤ a → a < 0x40000 → a % size = 0 →
        exec (i n) s = .next (s.putSc n { c with
          pc := c.pc + 4, data := mwrite 0 c.data (a - 0x30000) (natLE size (s.gr n (fld w 25 21)).toNat) })
    ld .scLdb 0xA 1 (BitVec.ofInt 32 (sgn 8 (at_ 1))) ∧ ld .scLdbu 0xB 1 (BitVec.ofNat 32 (at_ 1)) ∧
    ld .scLdh 0xC 2 (BitVec.ofInt 32 (sgn 16 (at_ 2))) ∧ ld .scLdhu 0xD 2 (BitVec.ofNat 32 (at_ 2)) ∧
    ld .scLdw 0xE 4 (BitVec.ofNat 32 (at_ 4)) ∧
    st .scStb 0x10 1 ∧ st .scSth 0x11 2 ∧ st .scStw 0x12 4

/-- What a program fault leaves: the S-core stopped before any effect, its pc and registers kept, and an event for the safelight that
carries the code, the instruction's address and the S-core's number (R125). -/
def Sys2Proof.Claims.ProgramFaultStops : Prop :=
  ∀ (s : State) (n code pc : Nat) (r : Run), s.m.run? (s.m.s n).ctx = some r → r.outcome = 0 → pc < 2 ^ 18 →
    (s.m.s n).block = .none →
    let t := s.m.progFault n code pc
    (t.s n).running = false ∧ (t.s n).pc = (s.m.s n).pc ∧ (t.s n).g = (s.m.s n).g ∧ (t.s n).data = (s.m.s n).data ∧
    (t.s n).fault = some (code, s.m.time) ∧ t.mem = s.m.mem ∧
    t.safe.events = s.m.safe.events ++ [⟨(s.m.s n).ctx, code, pc + n * 2 ^ 48⟩]

/-- Where the S-core instructions trap: the first of ADDR_FAULT, ALIGN_FAULT and AREA_FAULT that applies (R119), ILLEGAL for an
unlisted word (R124), for a count above 65,535 (R131), for an absent or read-only register (R121) and for a scope above 4. An access that
starts inside the map and ends past it counts as misaligned (the model's reading of R119, log entry 76). -/
def Sys2Proof.Claims.ScalarProgramFaults : Prop :=
  ∀ (s : State) (n w op a : Nat), ScAt s n w op →
    a = (s.gr n (fld w 20 16) + (BitVec.ofNat 16 (fld w 15 0)).signExtend 32).toNat →
    let trap (c : Instr) (code : Nat) : Prop := exec c s = .next (s.on fun m => m.progFault n code (s.m.s n).pc)
    let outside : Prop := 0x40000 ≤ a ∧ a < 0x40000000 ∨ 0xC0000000 ≤ a
    let ld (c : Nat → Instr) (o size : Nat) : Prop := op = o →
      (outside → trap (c n) 0x0804) ∧ (¬ outside → a % size ≠ 0 → trap (c n) 0x0805)
    let st (c : Nat → Instr) (o size : Nat) : Prop := op = o →
      (outside → trap (c n) 0x0804) ∧ (¬ outside → a % size ≠ 0 → trap (c n) 0x0805) ∧
      (a < 0x30000 → a % size = 0 → trap (c n) 0x0806)
    ld .scLdb 0xA 1 ∧ ld .scLdbu 0xB 1 ∧ ld .scLdh 0xC 2 ∧ ld .scLdhu 0xD 2 ∧ ld .scLdw 0xE 4 ∧
    st .scStb 0x10 1 ∧ st .scSth 0x11 2 ∧ st .scStw 0x12 4 ∧
    (op = 0x20 → 65535 < (s.gr n (fld w 15 11)).toNat → trap (.scSemwait n) 0x0803) ∧
    (op = 0x21 → 65535 < (s.gr n (fld w 15 11)).toNat → trap (.scSemtry n) 0x0803) ∧
    (op = 0x24 → ¬ (fld w 15 0 % 4096 ≤ 5 ∨ 0x10 ≤ fld w 15 0 % 4096 ∧ fld w 15 0 % 4096 ≤ 0x13 ∨
        0x20 ≤ fld w 15 0 % 4096 ∧ fld w 15 0 % 4096 ≤ 0x23 ∨ fld w 15 0 % 4096 = 0x30 ∨ fld w 15 0 % 4096 = 0x31) → trap (.scRdc n) 0x0803) ∧
    (op = 0x25 → ¬ (0x10 ≤ fld w 15 0 % 4096 ∧ fld w 15 0 % 4096 ≤ 0x13) → trap (.scWrc n) 0x0803) ∧
    (op = 0x26 → 5 ≤ fld w 15 0 % 8 → trap (.scFence n) 0x0803)

/-- The records of LAUNCH, CHOPEN, CHSEND and ICPLOAD (R437): a byte outside the data area is ADDR_FAULT, and an address inside that is not a
multiple of 4 is ALIGN_FAULT, before any other effect. -/
def Sys2Proof.Claims.RecordFaults : Prop :=
  ∀ (s : State) (n w op : Nat), ScAt s n w op →
    let rec_ (c : Instr) (o a len : Nat) : Prop := op = o →
      (a < 0x30000 ∨ 0x40000 < a + len → exec c s = .next (s.on fun m => m.progFault n 0x0804 (s.m.s n).pc)) ∧
      (0x30000 ≤ a → a + len ≤ 0x40000 → a % 4 ≠ 0 → exec c s = .next (s.on fun m => m.progFault n 0x0805 (s.m.s n).pc))
    rec_ (.scLaunch n) 0x27 (s.gr n (fld w 20 16)).toNat 32 ∧ rec_ (.scChopen n) 0x28 (s.gr n (fld w 20 16)).toNat 16 ∧
    rec_ (.scChsend n) 0x29 (s.gr n (fld w 15 11)).toNat 16 ∧ rec_ (.scIcpload n) 0x2E (s.gr n (fld w 20 16)).toNat 32

/-- A fetch from outside the program area (R119): an S-core whose pc has left it takes, at any instruction, AREA_FAULT at an address of the
map of Table 5.7 and ADDR_FAULT elsewhere. That the fault is taken at the address the S-core has gone to is the model's choice (log
entry 10). -/
def Sys2Proof.Claims.FetchFaults : Prop :=
  ∀ (s : State) (n pc : Nat), n < 64 → (s.m.s n).running = true → (s.m.s n).block = .none → (s.m.s n).pc = pc → 0x30000 ≤ pc →
    let code := if pc < 0x40000 ∨ 0x40000000 ≤ pc ∧ pc < 0xC0000000 then 0x0806 else 0x0804
    ∀ c ∈ ([.scAdd n, .scSub n, .scAnd n, .scOr n, .scXor n, .scSll n, .scSrl n, .scSra n, .scSlt n, .scSltu n, .scMul n, .scMulh n,
        .scMulhu n, .scDiv n, .scDivu n, .scRem n, .scRemu n, .scAddi n, .scAndi n, .scOri n, .scXori n, .scSlti n, .scSlli n, .scSrli n,
        .scSrai n, .scLui n, .scLdb n, .scLdbu n, .scLdh n, .scLdhu n, .scLdw n, .scStb n, .scSth n, .scStw n, .scBeq n, .scBne n,
        .scBlt n, .scBge n, .scBltu n, .scBgeu n, .scJal n, .scJalr n, .scSemwait n, .scSemtry n, .scSemadd n, .scSemrd n, .scRdc n,
        .scWrc n, .scFence n, .scLaunch n, .scChopen n, .scChsend n, .scChwait n, .scChack n, .scChrel n, .scIcpacq n, .scIcpload n,
        .scIcprel n, .scDone n, .scIllegal n] : List Instr),
      exec c s = .next (s.on fun m => m.progFault n code pc)

/-- An unlisted opcode or function is ILLEGAL (R124): SC_ILLEGAL stops the S-core with the event R125 gives. -/
def Sys2Proof.Claims.IllegalWordStops : Prop :=
  ∀ (s : State) (n w op : Nat) (r : Run), ScAt s n w op → s.m.run? (s.m.s n).ctx = some r → r.outcome = 0 →
    (op = 0 ∧ 0x10 < fld w 10 0 ∨ op = 0xF ∨ op = 0x13 ∨ op = 0x1C ∨ op = 0x1D ∨ op = 0x1E ∨ op = 0x1F ∨ 0x30 < op) →
    Answers (.scIllegal n) s fun t =>
      (t.m.s n).running = false ∧ (t.m.s n).pc = (s.m.s n).pc ∧ t.m.mem = s.m.mem ∧
      t.m.safe.events = s.m.safe.events ++ [⟨(s.m.s n).ctx, 0x0803, (s.m.s n).pc + n * 2 ^ 48⟩]
/-! Apertures, semaphores, control registers, fences, DONE (R120, R121, R129 to R133, R212). -/

/-- An aperture load of a mapped, aligned scratchpad address whose way is awake returns later: the S-core goes on, a value waits for rd, and
APERTURE_LOAD_RETURN writes it. With no request waiting at that bank the value is the word there, and no byte of memory changes (R120,
R145). That the value is fixed when the load issues, at its turn at the bank, is the model's choice (log entry 19). -/
def Sys2Proof.Claims.ApertureLoadReturns : Prop :=
  (∀ (s : State) (n w a : Nat), ScAt s n w 0xE → fld w 25 21 ≠ 0 → s.sound →
    a = (s.gr n (fld w 20 16) + (BitVec.ofNat 16 (fld w 15 0)).signExtend 32).toNat →
    0x40000000 ≤ a → a < 0x80000000 → a % 4 = 0 →
    let d := (s.m.s n).ap0 + (a - 0x40000000)
    0x080000000000 ≤ d → d + 4 ≤ 0x080048000000 → d % 4 = 0 → s.m.tenOk ((d - 0x080000000000) / 0x400000) ((s.m.s n).ctx / 1024) = true →
    s.m.awake (n / 16) d 4 = true →
    Answers (.scLdw n) s fun t =>
      (∃ v, (t.m.s n).loads = (s.m.s n).loads ++ [⟨fld w 25 21, v⟩] ∧
        ((∀ r ∈ (s.m.t (mtTile ((d - 0x080000000000) / 0x400000))).reqs, bankOf r.addr ≠ bankOf d) →
          v = BitVec.ofNat 32 (s.m.rdn d 4) ∧ t.m.mem = s.m.mem)) ∧
      (t.m.s n).pc = (s.m.s n).pc + 4 ∧ (t.m.s n).g = (s.m.s n).g) ∧
  (∀ (s : State) (n rd : Nat) (l : PendLd), (s.m.s n).loads.find? (fun l => l.rd == rd) = some l → rd ≠ 0 →
    exec (.apertureLoadReturn n rd) s = .next (s.putSc n { s.m.s n with
      g := tset (s.m.s n).g rd l.val, loads := (s.m.s n).loads.filter (fun l => l.rd != rd) }))

/-- An aperture store to HBM whose way is free changes exactly the bytes at SC_AP1 + (address - 0x8000_0000), and every other byte of
device memory reads as before; one whose way sleeps, or is taken by an earlier store of the S-core to that target, waits with its bytes
and changes none (R21, R119, R120, R210, R211). That a store to HBM acts when it is issued is the model's choice (log entry 18). -/
def Sys2Proof.Claims.ApertureStoreWritesItsBytes : Prop :=
  ∀ (s : State) (n w op size a : Nat), ScAt s n w op → (op, size) ∈ [(0x10, 1), (0x11, 2), (0x12, 4)] →
    a = (s.gr n (fld w 20 16) + (BitVec.ofNat 16 (fld w 15 0)).signExtend 32).toNat →
    0x80000000 ≤ a → a < 0xC0000000 → a % size = 0 →
    let d := (s.m.s n).ap1 + (a - 0x80000000)
    d + size ≤ 0x012000000000 → Mem.wfD 0 s.m.mem = true → s.m.mon.inject = none → (∀ u ∈ s.m.upd, u.core ≠ scTile n) →
    let runs (P : State → Prop) : Prop :=
      (op = 0x10 → Answers (.scStb n) s P) ∧ (op = 0x11 → Answers (.scSth n) s P) ∧ (op = 0x12 → Answers (.scStw n) s P)
    (s.m.mustWait (scTile n) d size = false → runs fun t =>
      (∀ b, t.byte b = if d ≤ b ∧ b < d + size then
          BitVec.ofNat 8 ((s.gr n (fld w 25 21)).toNat / 256 ^ (b - d)) else s.byte b) ∧
      (t.m.s n).pc = (s.m.s n).pc + 4 ∧ (t.m.s n).g = (s.m.s n).g) ∧
    (s.m.mustWait (scTile n) d size = true → runs fun t =>
      t.m.mem = s.m.mem ∧ (t.m.s n).pc = (s.m.s n).pc + 4 ∧ (t.m.s n).g = (s.m.s n).g ∧ ∃ r : LineReq, t.m.far = s.m.far ++ [r] ∧
        r.addr = d ∧ r.core = scTile n ∧ r.bytes = natLE size (s.gr n (fld w 25 21)).toNat ∧ r.upd = none)

/-- The semaphore instructions (R131, R132): a wait is granted at once when nothing older waits on the semaphore and the count is
there; a sum outside 0 to 65,535 is clamped and sets its sticky flag; nothing else differs. -/
def Sys2Proof.Claims.SemaphoreInstructions : Prop :=
  ∀ (s : State) (n w op sem k v : Nat), ScAt s n w op → sem = (s.gr n (fld w 20 16)).toNat % 32 →
    k = (s.gr n (fld w 15 11)).toNat → v = tget 0 (s.m.t (scTile n)).sem sem →
    let c := s.m.s n
    let q := s.m.t (scTile n)
    let with_ (q' : Tile) (c' : SCore) : State :=
      { s with m := { s.m with tile := tset s.m.tile (scTile n) q', sc := tset s.m.sc n c' } }
    let rd (x : Word) : SCore := { c with g := if fld w 25 21 = 0 then c.g else tset c.g (fld w 25 21) x, pc := c.pc + 4 }
    let free : Prop := ∀ x ∈ q.waits, x.sem ≠ sem
    (op = 0x23 → exec (.scSemrd n) s = .next (s.scWrote n (fld w 25 21) (BitVec.ofNat 32 v))) ∧
    (op = 0x22 → ∀ z : Int, z = v + (s.gr n (fld w 15 11)).toInt →
      exec (.scSemadd n) s = .next (with_ { q with
        sem := tset q.sem sem (if z < 0 then 0 else if 65535 < z then 65535 else z.toNat),
        satHi := if 65535 < z then q.satHi ||| 2 ^ sem else q.satHi,
        satLo := if z < 0 then q.satLo ||| 2 ^ sem else q.satLo } { c with pc := c.pc + 4 })) ∧
    (op = 0x21 → 1 ≤ k → k ≤ 65535 →
      (free → k ≤ v → exec (.scSemtry n) s = .next (with_ { q with sem := tset q.sem sem (v - k) } (rd 1))) ∧
      (¬ (free ∧ k ≤ v) → exec (.scSemtry n) s = .next (s.scWrote n (fld w 25 21) 0))) ∧
    (op = 0x20 → 1 ≤ k → k ≤ 65535 →
      (free → k ≤ v → exec (.scSemwait n) s = .next (with_ { q with sem := tset q.sem sem (v - k) } { c with pc := c.pc + 4 })) ∧
      (¬ (free ∧ k ≤ v) → exec (.scSemwait n) s =
        .next (with_ { q with waits := q.waits ++ [⟨0, sem, k⟩] } { c with block := .sem sem k }))) ∧
    (op = 0x20 → k = 0 → Answers (.scSemwait n) s fun t => (t.m.s n).pc = c.pc + 4 ∧ t.m.t (scTile n) = q)

/-- Waits are granted in the order of their arrival, and a granted wait subtracts its count (R133): an S-core blocked on the semaphore
goes on, an engine's waiting descriptor is granted. -/
def Sys2Proof.Claims.SemaphoreGrant : Prop :=
  ∀ (s : State) (tile sem i : Nat) (x : SemWait), (s.m.t tile).waits[i]? = some x → x.sem = sem →
    (∀ j < i, ∀ y, (s.m.t tile).waits[j]? = some y → y.sem ≠ sem) → x.cnt ≤ tget 0 (s.m.t tile).sem sem →
    Answers (.semaphoreWaitGrant tile sem) s fun t =>
      (t.m.t tile).sem = tset (s.m.t tile).sem sem (tget 0 (s.m.t tile).sem sem - x.cnt) ∧
      (t.m.t tile).waits = (s.m.t tile).waits.eraseIdx i ∧ t.m.mem = s.m.mem ∧
      (∀ k c : Nat, x.eng = 0 → (s.m.s (scOf tile)).block = .sem k c → (s.m.s (scOf tile)).pc + 4 < 0x30000 →
        t.m.s (scOf tile) = { s.m.s (scOf tile) with block := .none, pc := (s.m.s (scOf tile)).pc + 4 }) ∧
      (x.eng ≠ 0 → t.m.sc = s.m.sc ∧ ∀ j d, (s.m.e tile (x.eng - 2)).buf.findIdx? (fun d => d.wait == 1) = some j →
        (s.m.e tile (x.eng - 2)).buf[j]? = some d → (t.m.e tile (x.eng - 2)).buf[j]? = some { d with wait := 2 })

/-- RDC reads each register of Table 5.8 and changes no other register; SC_SATHI and SC_SATLO clear when read, and a read of a lower half
latches the upper half (R121). The cycle count lies within the SAFECLK cycle in progress, below 50 past its start, and never falls (R17;
which number below 50 it is, is the model's free value, log entry 11). -/
def Sys2Proof.Claims.ControlRegisterReads : Prop :=
  ∀ (s : State) (n w : Nat), ScAt s n w 0x24 → fld w 25 21 ≠ 0 →
    let c := s.m.s n
    let q := s.m.t (scTile n)
    let gives (r v : Nat) (more : State → Prop) : Prop := fld w 15 0 % 4096 = r → Answers (.scRdc n) s fun t =>
      t.gr n (fld w 25 21) = BitVec.ofNat 32 v ∧ (∀ i, i ≠ fld w 25 21 → t.gr n i = s.gr n i) ∧ (t.m.s n).pc = c.pc + 4 ∧
      t.m.mem = s.m.mem ∧ (t.m.t (scTile n)).sem = q.sem ∧ more t
    let keep (t : State) : Prop := t.m.t (scTile n) = q ∧ (t.m.s n).cycHi = c.cycHi ∧ (t.m.s n).timeHi = c.timeHi
    gives 0 (scTile n) keep ∧ gives 1 c.ctx keep ∧
    gives 2 (nth 0 c.args 0) keep ∧ gives 3 (nth 0 c.args 1) keep ∧ gives 4 (nth 0 c.args 2) keep ∧ gives 5 (nth 0 c.args 3) keep ∧
    gives 0x10 (fld c.ap0 31 16 * 65536) keep ∧ gives 0x11 (fld c.ap0 47 32) keep ∧
    gives 0x12 (fld c.ap1 31 16 * 65536) keep ∧ gives 0x13 (fld c.ap1 47 32) keep ∧
    (fld w 15 0 % 4096 = 0x20 → Answers (.scRdc n) s fun t => ∃ k, k < 50 ∧ (let cyc := max c.cyc (50 * (s.m.time - c.launch) + k) % 2 ^ 64
      t.gr n (fld w 25 21) = BitVec.ofNat 32 (cyc % 2 ^ 32) ∧ (t.m.s n).cycHi = cyc / 2 ^ 32 ∧ (t.m.s n).cyc = cyc) ∧
      (∀ i, i ≠ fld w 25 21 → t.gr n i = s.gr n i) ∧ (t.m.s n).pc = c.pc + 4 ∧ t.m.mem = s.m.mem) ∧
    gives 0x21 c.cycHi keep ∧
    gives 0x22 (s.m.time % 2 ^ 32) (fun t => (t.m.s n).timeHi = s.m.time / 2 ^ 32 % 2 ^ 32) ∧ gives 0x23 c.timeHi keep ∧
    gives 0x30 q.satHi (fun t => (t.m.t (scTile n)).satHi = 0 ∧ (t.m.t (scTile n)).satLo = q.satLo) ∧
    gives 0x31 q.satLo (fun t => (t.m.t (scTile n)).satLo = 0 ∧ (t.m.t (scTile n)).satHi = q.satHi)

/-- WRC writes the two halves of an aperture base, bits [15:0] of the low half reading zero, and nothing else (R121). -/
def Sys2Proof.Claims.ControlRegisterWrites : Prop :=
  ∀ (s : State) (n w v : Nat), ScAt s n w 0x25 → v = (s.gr n (fld w 20 16)).toNat →
    let c := s.m.s n
    c.ap0 < 2 ^ 48 → c.ap1 < 2 ^ 48 →
    (fld w 15 0 % 4096 = 0x10 → exec (.scWrc n) s =
      .next (s.putSc n { c with pc := c.pc + 4, ap0 := c.ap0 / 2 ^ 32 * 2 ^ 32 + v / 65536 * 65536 })) ∧
    (fld w 15 0 % 4096 = 0x11 → exec (.scWrc n) s =
      .next (s.putSc n { c with pc := c.pc + 4, ap0 := v % 65536 * 2 ^ 32 + c.ap0 % 2 ^ 32 })) ∧
    (fld w 15 0 % 4096 = 0x12 → exec (.scWrc n) s =
      .next (s.putSc n { c with pc := c.pc + 4, ap1 := c.ap1 / 2 ^ 32 * 2 ^ 32 + v / 65536 * 65536 })) ∧
    (fld w 15 0 % 4096 = 0x13 → exec (.scWrc n) s =
      .next (s.putSc n { c with pc := c.pc + 4, ap1 := v % 65536 * 2 ^ 32 + c.ap1 % 2 ^ 32 }))

/-- Fences and DONE (R129, R130, R211, R212): scopes 0 and 1 hold at once when no load is out; else the fence blocks the S-core until its
loads have returned and its stores are complete at the scope; DONE, whose stores are or become complete, ends the S-core's part, reports its status, closes the channels it reads and releases a held ICP lock. -/
def Sys2Proof.Claims.FencesAndDone : Prop :=
  (∀ (s : State) (n w : Nat), ScAt s n w 0x26 → fld w 15 0 % 8 ≤ 1 → (s.m.s n).loads = [] →
    exec (.scFence n) s = .next (s.scJumped n ((s.m.s n).pc + 4))) ∧
  (∀ (s : State) (n w : Nat), ScAt s n w 0x26 → 2 ≤ fld w 15 0 % 8 ∨ (s.m.s n).loads ≠ [] → fld w 15 0 % 8 ≤ 4 →
    exec (.scFence n) s = .next (s.putSc n { s.m.s n with block := .fence (fld w 15 0 % 8) })) ∧
  (∀ (s : State) (n sc : Nat), (s.m.s n).block = .fence sc → (s.m.s n).pc + 4 < 0x30000 →
    ((s.m.s n).loads = [] → s.m.quietAt (scTile n) 4 sc = true →
      exec (.fenceComplete n) s = .next (s.putSc n { s.m.s n with block := .none, pc := (s.m.s n).pc + 4 })) ∧
    ((s.m.s n).loads ≠ [] ∨ s.m.quietAt (scTile n) 4 sc = false → exec (.fenceComplete n) s = .next s)) ∧
  (∀ (s : State) (n w : Nat), ScAt s n w 0x30 → s.sound → (s.m.s n).loads = [] → (s.m.fenceSc n).quietCore (scTile n) 4 = true → Answers (.scDone n) s fun t =>
    (t.m.s n).running = false ∧ (t.m.s n).doneSt = some (s.gr n (fld w 20 16)).toNat ∧
    t.m.safe.reports = s.m.safe.reports ++ [n] ∧ t.m.icp.holder ≠ some n ∧
    (∀ m, m ≠ n → s.m.icp.holder = some m → t.m.icp.holder = some m) ∧
    (∀ k ch, tget? t.m.chan k = some ch → ch.reader = n → k / 16384 = (s.m.s n).ctx → ch.closed = true))

/-- LAUNCH (R126, R214): the statuses in the order of the list, each in rd with nothing queued; otherwise, with the S-core's stores complete,
the list is the last of its queue and rd is 0. A list counts as pending until its first descriptor is fetched (log entry 77). -/
def Sys2Proof.Claims.LaunchQueuesAList : Prop :=
  ∀ (s : State) (n w a x : Nat), ScAt s n w 0x27 → a = (s.gr n (fld w 20 16)).toNat → 0x30000 ≤ a → a + 32 ≤ 0x40000 → a % 4 = 0 →
    x = leNat (mread 0 (s.m.s n).data (a - 0x30000) 32) →
    let tl := fld x 9 0
    let q := fld x 11 10
    let form : Prop := fld x 95 80 = 0 ∨ fld x 15 12 ≠ 0 ∨ fld x 255 96 ≠ 0
    let inside : Prop := ∃ i r, s.m.regionOf n = some i ∧ r = nth 0 s.m.img.regions i ∧ inRegion r tl = true
    let kind : Prop := kindOf tl = .mcore ∨ kindOf tl = .vcore ∧ q ≠ 2
    let full : Prop := 64 ≤ ((s.m.e tl q).lists.filter (fun l => l.fetched == 0)).length
    let fails (v : Word) : Prop := exec (.scLaunch n) s = .next (s.scWrote n (fld w 25 21) v)
    (form → fails 0x0904) ∧ (¬ form → ¬ inside → kindOf tl ≠ .none → fails 0x0901) ∧
    (¬ form → inside ∨ kindOf tl = .none → ¬ kind → fails 0x0902) ∧
    (¬ form → inside → kind → full → fails 0x0903) ∧
    (¬ form → inside → kind → ¬ full → s.sound → (s.m.fenceSc n).quietCore (scTile n) 4 = true → Answers (.scLaunch n) s fun t =>
      (t.m.e tl q).lists = (s.m.e tl q).lists ++ [⟨(s.m.e tl q).next, fld x 79 32, fld x 95 80, fld x 31 16, (s.m.s n).ctx, 0, 0⟩] ∧
      (fld w 25 21 ≠ 0 → t.gr n (fld w 25 21) = 0) ∧ (∀ i, i ≠ fld w 25 21 → t.gr n i = s.gr n i) ∧
      (t.m.s n).pc = (s.m.s n).pc + 4)
/-! Channels (R234 to R243). -/

/-- Where a record of n bytes goes in a ring, by the four rules of R238: WR unwrapped, offset 0 behind a skip marker, WR wrapped, or it
waits. -/
def Sys2Proof.Claims.RingPlacementRules : Prop :=
  ∀ (c : Chan) (n : Nat), 0 < n → c.rd < c.size → c.wr < c.size →
    let unwrapped : Prop := c.u = 0 ∨ c.rd < c.wr
    (unwrapped → n ≤ c.size - c.wr → c.place? n = some (c.wr, none)) ∧
    (unwrapped → c.size - c.wr < n → n ≤ c.rd → c.place? n = some (0, some c.wr)) ∧
    (¬ unwrapped → n ≤ c.rd - c.wr → c.place? n = some (c.wr, none)) ∧
    (unwrapped → c.size - c.wr < n → c.rd < n → c.place? n = none) ∧ (¬ unwrapped → c.rd - c.wr < n → c.place? n = none) ∧
    (2 * n ≤ c.size → c.u = 0 → c.rd = c.wr → (c.place? n).isSome = true)

/-- CHOPEN (R236): the statuses in their order, each in rd with no other change; otherwise the channel is OPEN with the caller as its
reader, empty, with the record's grant, ring, size and timeout. -/
def Sys2Proof.Claims.ChannelOpen : Prop :=
  ∀ (s : State) (n w a x : Nat), ScAt s n w 0x28 → a = (s.gr n (fld w 20 16)).toNat → 0x30000 ≤ a → a + 16 ≤ 0x40000 → a % 4 = 0 →
    x = leNat (mread 0 (s.m.s n).data (a - 0x30000) 16) →
    let size := 2 ^ fld x 58 54
    let k := (s.m.s n).ctx * 16384 + fld x 13 0
    let range : Prop := fld x 13 0 < s.m.nChanOf (s.m.s n).ctx
    let form : Prop := fld x 15 14 = 0 ∧ fld x 63 59 = 0 ∧ fld x 127 96 = 0 ∧ 12 ≤ fld x 58 54 ∧ fld x 58 54 ≤ 21 ∧
      fld x 53 32 % 4096 = 0 ∧ fld x 53 32 + size + size / 16 ≤ 0x400000
    let fails (v : Word) : Prop := exec (.scChopen n) s = .next (s.scWrote n (fld w 25 21) v)
    (¬ range → fails 0x0706) ∧ (range → ¬ form → fails 0x0708) ∧ (range → form → (tget? s.m.chan k).isSome = true → fails 0x0707) ∧
    (range → form → tget? s.m.chan k = none → exec (.scChopen n) s = .next (
      let t := s.scWrote n (fld w 25 21) 0
      let ch : Chan := ⟨false, n, fld x 31 16, tileBase (home0 (scTile n)) + fld x 53 32, size,
        if fld x 95 64 = 0 then 25000 else fld x 95 64, 0, 0, 0, 0, [], []⟩
      { t with m := { t.m with chan := tset s.m.chan k ch } }))

/-- CHSEND (R239): the statuses in their order, each in rd with no channel changed; a send that passes, with the S-core's stores complete
and the way to its message awake, blocks its S-core and hands the message's bytes to the channel, where it is placed or waits (R238,
R240). -/
def Sys2Proof.Claims.ChannelSend : Prop :=
  ∀ (s : State) (n w a x : Nat), ScAt s n w 0x29 → s.m.reg.parityOk = true → a = (s.gr n (fld w 15 11)).toNat → 0x30000 ≤ a → a + 16 ≤ 0x40000 → a % 4 = 0 →
    x = leNat (mread 0 (s.m.s n).data (a - 0x30000) 16) →
    let h := (s.gr n (fld w 20 16)).toNat
    let len := fld x 80 64
    let k := (s.m.s n).ctx * 16384 + h
    let form : Prop := 64 ≤ len ∧ len ≤ 65536 ∧ fld x 63 48 = 0 ∧ fld x 127 81 = 0
    let granted (ch : Chan) : Prop := ch.grant = 0xFFFF ∨ ch.grant = scTile n
    let fails (v : Word) : Prop := Answers (.scChsend n) s fun t =>
      (fld w 25 21 ≠ 0 → t.gr n (fld w 25 21) = v) ∧ (t.m.s n).pc = (s.m.s n).pc + 4 ∧ t.m.chan = s.m.chan ∧ t.m.mem = s.m.mem
    (s.m.nChanOf (s.m.s n).ctx ≤ h → fails 0x0706) ∧
    (h < s.m.nChanOf (s.m.s n).ctx → ¬ form → fails 0x0708) ∧
    (h < s.m.nChanOf (s.m.s n).ctx → form → tget? s.m.chan k = none → fails 0x0701) ∧
    (h < s.m.nChanOf (s.m.s n).ctx → form → ∀ ch, tget? s.m.chan k = some ch →
      (¬ granted ch → fails 0x0705) ∧ (granted ch → ch.closed = true → fails 0x0702) ∧
      (granted ch → ch.closed = false → ch.size < 64 * ((len + 63) / 64) → fails 0x0703) ∧
      (granted ch → ch.closed = false → 64 * ((len + 63) / 64) ≤ ch.size → s.sound →
        (s.m.fenceSc n).quietCore (scTile n) 4 = true → s.m.awake (n / 16) (fld x 47 0) len = true →
        fld x 47 0 + len ≤ 0x012000000000 → Answers (.scChsend n) s fun t =>
          (t.m.s n).block = .chsend (fld w 25 21) h ∧ (t.m.s n).pc = (s.m.s n).pc ∧ (t.m.s n).g = (s.m.s n).g ∧
          t.m.chan = tset s.m.chan k (ch.arrive ⟨some n, mread 0 t.m.mem (fld x 47 0) len⟩)))

/-- CHANNEL_RECORD_VISIBLE (R237, R239, R241): the record at the head of a ring is complete: its bytes, the zeros after them and its
length word stand in the ring, its marker too where it has one; it is added to A, its sender returns 0, and no other byte changes. The ring
lies in one memory tile, no die on the reader's way to it is in DEEP, and no other write is on its way. -/
def Sys2Proof.Claims.ChannelRecordVisible : Prop :=
  ∀ (s : State) (c h : Nat) (ch : Chan) (p : Placed) (ps : List Placed), tget? s.m.chan (c * 16384 + h) = some ch →
    ch.placed = p :: ps → p.visible = false → (∀ q ∈ ps, q.visible = false) → p.len = p.data.length → 64 ≤ p.len → p.len ≤ p.n → p.pos % 64 = 0 →
    p.pos + p.n ≤ ch.size → (∀ q, p.marker = some q → p.pos + p.n ≤ q ∧ q % 64 = 0 ∧ q + 64 ≤ ch.size) →
    Mem.wfD 0 s.m.mem = true → ch.size ≤ 2 ^ 21 → s.sound → s.still →
    ∀ mt, mt < 288 → mtBase mt ≤ ch.ring → ch.ring + ch.size + ch.size / 16 ≤ mtBase mt + 0x400000 →
    (∀ d ∈ pathDies (ch.reader / 16) (mt / 72), s.m.sleeps d = false) →
    s.m.tenOk mt (c / 1024) = true → ch.reader < 64 →
    Answers (.channelRecordVisible c h 0) s fun t =>
      (let r := ch.ring + p.pos
       mread 0 t.m.mem r p.len = p.data ∧ mread 0 t.m.mem (r + p.len) (p.n - p.len) = List.replicate (p.n - p.len) 0) ∧
      leNat (mread 0 t.m.mem (ch.ring + ch.size + p.pos / 16) 4) = p.len % 2 ^ 32 ∧
      (∀ q, p.marker = some q → leNat (mread 0 t.m.mem (ch.ring + q) 64) = 0xFFFFFFFF + (ch.size - q) * 2 ^ 32 ∧
        leNat (mread 0 t.m.mem (ch.ring + ch.size + q / 16) 4) = 0xFFFFFFFF) ∧
      (∀ b, ¬ (ch.ring + p.pos ≤ b ∧ b < ch.ring + p.pos + p.n) →
        ¬ (ch.ring + ch.size + p.pos / 16 ≤ b ∧ b < ch.ring + ch.size + p.pos / 16 + 4) →
        (∀ q, p.marker = some q → ¬ (ch.ring + q ≤ b ∧ b < ch.ring + q + 64) ∧
          ¬ (ch.ring + ch.size + q / 16 ≤ b ∧ b < ch.ring + ch.size + q / 16 + 4)) → t.byte b = s.byte b) ∧
      (∃ ch', tget? t.m.chan (c * 16384 + h) = some ch' ∧ ch'.placed = ps ∧
        ch'.a = ch.a + p.n + (match p.marker with | some q => ch.size - q | none => 0)) ∧
      (∀ n rd, p.sender = some n → n ≠ ch.reader → (s.m.s n).block = .chsend rd h → rd ≠ 0 →
        (t.m.s n).block = .none ∧ t.gr n rd = 0 ∧ (t.m.s n).pc = (s.m.s n).pc + 4)

/-- CHWAIT and its timeout (R241, R243): BAD_HANDLE, 1, 0, or the S-core blocks; a handle it does not read is ILLEGAL. -/
def Sys2Proof.Claims.ChannelWait : Prop :=
  (∀ (s : State) (n w : Nat), ScAt s n w 0x2A →
    let h := (s.gr n (fld w 20 16)).toNat
    let lim := (s.gr n (fld w 15 11)).toNat
    let c := (s.m.s n).ctx
    (s.m.nChanOf c ≤ h → exec (.scChwait n) s = .next (s.scWrote n (fld w 25 21) 0x0706)) ∧
    (h < s.m.nChanOf c → ∀ ch, tget? s.m.chan (c * 16384 + h) = some ch → ch.reader = n → ch.closed = false →
      (0 < ch.a → exec (.scChwait n) s = .next (s.scWrote n (fld w 25 21) 1)) ∧
      (ch.a = 0 → lim = 0 → exec (.scChwait n) s = .next (s.scWrote n (fld w 25 21) 0)) ∧
      (ch.a = 0 → lim ≠ 0 → exec (.scChwait n) s = .next (s.putSc n { s.m.s n with block := .chwait (fld w 25 21) h lim }))) ∧
    (h < s.m.nChanOf c → (∀ ch, tget? s.m.chan (c * 16384 + h) = some ch → ch.reader ≠ n ∨ ch.closed = true) →
      exec (.scChwait n) s = .next (s.on fun m => m.progFault n 0x0803 (s.m.s n).pc))) ∧
  (∀ (s : State) (n rd h lim : Nat), (s.m.s n).block = .chwait rd h lim →
    exec (.chwaitTimeout n) s = .next (s.putSc n { s.m.s n with
      block := .none, pc := (s.m.s n).pc + 4, g := if rd = 0 then (s.m.s n).g else tset (s.m.s n).g rd 0 }))

/-- CHACK (R241): RD advances modulo S, U and A fall, rd takes 0; a count that is no multiple of 64 or exceeds A is ILLEGAL. -/
def Sys2Proof.Claims.ChannelAcknowledge : Prop :=
  ∀ (s : State) (n w : Nat) (ch : Chan), ScAt s n w 0x2B →
    let h := (s.gr n (fld w 20 16)).toNat
    let b := (s.gr n (fld w 15 11)).toNat
    let k := (s.m.s n).ctx * 16384 + h
    h < s.m.nChanOf (s.m.s n).ctx → tget? s.m.chan k = some ch → ch.reader = n → ch.closed = false →
    (b % 64 = 0 → b ≤ ch.a → ch.waiting = [] → exec (.scChack n) s = .next (
      let t := s.scWrote n (fld w 25 21) 0
      { t with m := { t.m with chan := tset s.m.chan k { ch with rd := (ch.rd + b) % ch.size, u := ch.u - b, a := ch.a - b } } })) ∧
    (b % 64 = 0 → b ≤ ch.a → ∀ x xs pos mk, ch.waiting = x :: xs →
      ({ ch with rd := (ch.rd + b) % ch.size, u := ch.u - b, a := ch.a - b, waiting := xs } : Chan).place?
        (64 * ((x.data.length + 63) / 64)) = some (pos, mk) →
      Answers (.scChack n) s fun t => ∃ ch', tget? t.m.chan k = some ch' ∧ ch'.rd = (ch.rd + b) % ch.size ∧ ch'.a = ch.a - b ∧
        (∃ p ∈ ch'.placed, p.sender = x.sender ∧ p.data = x.data ∧ p.pos = pos ∧ p.marker = mk) ∧
        (fld w 25 21 ≠ 0 → t.gr n (fld w 25 21) = 0) ∧ (t.m.s n).pc = (s.m.s n).pc + 4) ∧
    (b % 64 ≠ 0 ∨ ch.a < b → exec (.scChack n) s = .next (s.on fun m => m.progFault n 0x0803 (s.m.s n).pc))

/-- CHREL by Table 10.1 (R235): the reader closes, a granted sender of an OPEN channel gets 0, a closed single-sender channel becomes
FREE, an any-sender one stays CLOSED, an S-core without grant gets NOT_GRANTED, a FREE channel NOT_OPEN. -/
def Sys2Proof.Claims.ChannelRelease : Prop :=
  ∀ (s : State) (n w : Nat), ScAt s n w 0x2C → s.m.reg.parityOk = true →
    let h := (s.gr n (fld w 20 16)).toNat
    let k := (s.m.s n).ctx * 16384 + h
    let ret (v : Word) : Prop := exec (.scChrel n) s = .next (s.scWrote n (fld w 25 21) v)
    (s.m.nChanOf (s.m.s n).ctx ≤ h → ret 0x0706) ∧
    (h < s.m.nChanOf (s.m.s n).ctx → tget? s.m.chan k = none → ret 0x0701) ∧
    (h < s.m.nChanOf (s.m.s n).ctx → ∀ ch, tget? s.m.chan k = some ch →
      let granted : Prop := ch.grant = 0xFFFF ∨ ch.grant = scTile n
      (ch.closed = false → ch.reader = n → Answers (.scChrel n) s fun t =>
        (∃ ch', tget? t.m.chan k = some ch' ∧ ch'.closed = true ∧ ch'.placed = [] ∧ ch'.waiting = [] ∧ ch'.a = 0) ∧
        (fld w 25 21 ≠ 0 → t.gr n (fld w 25 21) = 0) ∧ (t.m.s n).pc = (s.m.s n).pc + 4 ∧ t.m.mem = s.m.mem ∧
        (∀ m rd, ((∃ p ∈ ch.placed, p.sender = some m) ∨ ∃ x ∈ ch.waiting, x.sender = some m) → m ≠ n → (s.m.s m).block = .chsend rd h → rd ≠ 0 →
          t.gr m rd = 0x0702 ∧ (t.m.s m).block = .none)) ∧
      (ch.closed = false → ch.reader ≠ n → granted → ret 0) ∧ (ch.closed = false → ch.reader ≠ n → ¬ granted → ret 0x0705) ∧
      (ch.closed = true → ch.grant = scTile n → exec (.scChrel n) s = .next (
        let t := s.scWrote n (fld w 25 21) 0
        { t with m := { t.m with chan := tdel s.m.chan k } })) ∧
      (ch.closed = true → ch.grant = 0xFFFF → ret 0x0702) ∧ (ch.closed = true → ¬ granted → ret 0x0705))

/-- FULL_TIMEOUT and COMPLETION_MESSAGE_ARRIVE (R240, R242): a send not yet placed returns 0x0704 and leaves the queue; a message whose source's
writes are complete is placed or waits without a grant, and one that meets no OPEN channel is dropped (R214). -/
def Obligations.ChannelTimeoutsAndMessages : Prop :=
  (∀ (s : State) (n rd h : Nat) (ch : Chan), (s.m.s n).block = .chsend rd h → rd ≠ 0 → s.m.reg.parityOk = true →
    tget? s.m.chan ((s.m.s n).ctx * 16384 + h) = some ch → (∃ x ∈ ch.waiting, x.sender = some n) →
    Answers (.fullTimeout n) s fun t =>
      (t.m.s n).block = .none ∧ t.gr n rd = 0x0704 ∧ (t.m.s n).pc = (s.m.s n).pc + 4 ∧ t.m.mem = s.m.mem ∧
      ∃ ch', tget? t.m.chan ((s.m.s n).ctx * 16384 + h) = some ch' ∧ ∀ x ∈ ch'.waiting, x.sender ≠ some n) ∧
  (∀ (s : State) (i : Nat) (g : Msg) (r : Run), s.m.msgs[i]? = some g → s.m.run? g.ctx = some r → s.m.reg.parityOk = true →
    s.m.noneLeft (fun u _ _ => u == g.core) = true →
    (∀ ch, g.chan < nChan r.cr → tget? s.m.chan (g.ctx * 16384 + g.chan) = some ch → ch.closed = false →
      exec (.completionMessageArrive i) s = .next { s with m := { s.m with
        msgs := s.m.msgs.eraseIdx i, chan := tset s.m.chan (g.ctx * 16384 + g.chan) (ch.arrive ⟨none, g.data⟩) } }) ∧
    ((nChan r.cr ≤ g.chan ∨ tget? s.m.chan (g.ctx * 16384 + g.chan) = none ∨
        ∃ ch, tget? s.m.chan (g.ctx * 16384 + g.chan) = some ch ∧ ch.closed = true) →
      Answers (.completionMessageArrive i) s fun t => t.m.msgs = s.m.msgs.eraseIdx i ∧ t.m.chan = s.m.chan ∧ t.m.mem = s.m.mem))

/-! The ICP (R125, R129, R359 to R365). -/

/-- The lock: ICPACQ answers 1 where it is taken or already held and 0 where another S-core holds it or a load outlives it; ICPREL and the
break release it from its holder alone (R125, R129, R363). -/
def Sys2Proof.Claims.IcpLock : Prop :=
  (∀ (s : State) (n w : Nat), ScAt s n w 0x2D →
    let rd (v : Word) : SCore := { s.m.s n with
      g := if fld w 25 21 = 0 then (s.m.s n).g else tset (s.m.s n).g (fld w 25 21) v, pc := (s.m.s n).pc + 4 }
    (s.m.icp.holder = some n → exec (.scIcpacq n) s = .next (s.putSc n (rd 1))) ∧
    (s.m.icp.holder = none → s.m.icp.load = none → exec (.scIcpacq n) s =
      .next { s with m := { s.m with icp := { s.m.icp with holder := some n }, sc := tset s.m.sc n (rd 1) } }) ∧
    (s.m.icp.holder = none → s.m.icp.load ≠ none → exec (.scIcpacq n) s = .next (s.putSc n (rd 0))) ∧
    (∀ m, m ≠ n → s.m.icp.holder = some m → exec (.scIcpacq n) s = .next (s.putSc n (rd 0)))) ∧
  (∀ (s : State) (n w : Nat), ScAt s n w 0x2F →
    exec (.scIcprel n) s = .next { s with m := { s.m with
      icp := { s.m.icp with holder := if s.m.icp.holder = some n then none else s.m.icp.holder },
      sc := tset s.m.sc n { s.m.s n with pc := (s.m.s n).pc + 4 } } }) ∧
  (∀ (s : State) (n : Nat), s.m.icp.breakOf = some n →
    exec .icpLockBreak s = .next { s with m := { s.m with icp := { s.m.icp with
      holder := if s.m.icp.holder = some n then none else s.m.icp.holder, breakOf := none } } })

/-- ICPLOAD (R358, R359, R361, R391): without the lock ICP_NOT_HELD and nothing written; a load that passes steps 1 to 4 makes every named
slide INVALID and blocks its S-core; a commit that passes is pending and, without WAIT, returns 0. The image can be read: no die sleeps, its
tiles are open to the tenancy, and no write is on its way. That a request waits while a load that outlived its S-core runs, and ICP_FORMAT
for a reserved field of the request record, are the model's choices (log entries 91 and 33). -/
def Sys2Proof.Claims.IcpRequests : Prop :=
  ∀ (s : State) (n w a x : Nat), ScAt s n w 0x2E → s.readable (s.m.s n).ctx → a = (s.gr n (fld w 20 16)).toNat → 0x30000 ≤ a → a + 32 ≤ 0x40000 → a % 4 = 0 →
    x = leNat (mread 0 (s.m.s n).data (a - 0x30000) 32) →
    let fails (v : Nat) : Prop := Answers (.scIcpload n) s fun t =>
      (fld w 25 21 ≠ 0 → t.gr n (fld w 25 21) = BitVec.ofNat 32 v) ∧ (t.m.s n).pc = (s.m.s n).pc + 4 ∧
      (∀ i, (t.m.t i).slide = (s.m.t i).slide ∧ (t.m.t i).frames = (s.m.t i).frames ∧ (t.m.t i).prog = (s.m.t i).prog) ∧
      t.m.icp.status = v ∧ t.m.icp.requester = n ∧ t.m.icp.load = s.m.icp.load ∧ t.m.icp.pend = s.m.icp.pend ∧ t.m.mem = s.m.mem
    let form : Prop := fld x 71 64 ≤ 1 ∧ fld x 63 48 = 0 ∧ fld x 79 75 = 0 ∧ fld x 95 80 = 0 ∧ fld x 255 128 = 0
    (s.m.icp.holder ≠ some n → fails 0x0D01) ∧ (s.m.icp.holder = some n → ¬ form → fails 0x0D02) ∧
    (s.m.icp.holder = some n → form → s.m.icp.load ≠ none → exec (.scIcpload n) s = .next s) ∧
    (s.m.icp.holder = some n → form → s.m.icp.load = none → fld x 71 64 = 0 → ∀ img nf nd, img = fld x 47 0 → img % 64 = 0 → headBad (s.m.rdn img 64) = false →
      nf = fld (s.m.rdn img 64) 63 32 → nd = fld (s.m.rdn img 64) 95 64 → mapped img 64 = true →
      mapped img (piPay nf nd + 1088 * nf) = true →
      (s.m.loadCode n img (bitAt x 72) ≠ 0 → fails (s.m.loadCode n img (bitAt x 72))) ∧
      (s.m.loadCode n img (bitAt x 72) = 0 → Answers (.scIcpload n) s fun t =>
        (t.m.s n).block = .icp (fld w 25 21) ∧ (t.m.s n).pc = (s.m.s n).pc ∧ t.m.icp.load = some (n, img) ∧ t.m.mem = s.m.mem ∧
        (∀ k ∈ namedSlides ((List.range nf).map fun i => s.m.rdn (img + 64 + 4 * i) 4), tget 0 (t.m.t (k / 8)).slide (k % 8) = 0))) ∧
    (s.m.icp.holder = some n → form → s.m.icp.load = none → fld x 71 64 = 1 → fld x 63 0 = 0 → bitAt x 73 = true → bitAt x 74 = false →
      ∀ r, s.m.regionOf n = some r → tget? s.m.icp.pend r = none → tget? s.m.icp.quiet r = none →
      (∀ i ∈ allTiles, inRegion (nth 0 s.m.img.regions r) i = true → s.m.scopeBad (nth 0 s.m.img.regions r) i = false) →
      Answers (.scIcpload n) s fun t => tget? t.m.icp.pend r = some (fld x 127 96) ∧ tget false t.m.icp.hold r = true ∧
        t.m.icp.status = 0 ∧ (fld w 25 21 ≠ 0 → t.gr n (fld w 25 21) = 0) ∧ (t.m.s n).pc = (s.m.s n).pc + 4)

/-- ICP_LOAD_DONE (R359 steps 6 to 8, R360, R365), the payload in HBM: one that departs from the table ends with TABLE_MISMATCH and a quiescent
region; one program frame or one slide frame that agrees is written, a written slide becomes valid, the status is 0, the load is measured
and the S-core that waits goes on. -/
def Obligations.IcpLoadEnds : Prop :=
  ∀ (s : State) (n img r : Nat) (fs : List Nat), s.m.icp.load = some (n, img) → s.m.icp.frames = fs → s.m.regionOf n = some r →
    let base := img + s.m.icp.bytes.length
    base + 1088 * fs.length ≤ 0x012000000000 → s.readable s.m.icp.ctx →
    let ends (t : State) (f : Nat) : Prop :=
      t.m.icp.load = none ∧ t.m.icp.status = 0 ∧ t.m.img.nPartial = s.m.img.nPartial + 1 ∧ t.m.safe.kept = [] ∧
      t.m.img.mPartial = sha384 (s.m.img.partialM ++ sha384 (s.m.icp.bytes ++ mread 0 s.m.mem base 1088)) ∧
      (∀ rd, (s.m.s n).block = .icp rd → rd ≠ 0 → (t.m.s n).block = .none ∧ t.gr n rd = 0 ∧ (t.m.s n).pc = (s.m.s n).pc + 4) ∧
      t.m.mem = s.m.mem ∧ ∀ i, i ≠ faTile f → (t.m.t i).prog = (s.m.t i).prog ∧ (t.m.t i).frames = (s.m.t i).frames
    (∀ f, fs = [f] → leNat (mread 0 s.m.mem base 8) ≠ f → Answers .icpLoadDone s fun t =>
      t.m.icp.load = none ∧ t.m.icp.status = 0x0D05 ∧ (∃ ks, tget? t.m.icp.quiet r = some ks) ∧ t.m.img.nPartial = s.m.img.nPartial ∧
      t.m.mem = s.m.mem) ∧
    (∀ f, fs = [f] → faProg f = true → f < 2 ^ 32 → leNat (mread 0 s.m.mem base 64) = f →
      tget? s.m.icp.quiet r = none →
      ((s.m.tput (faTile f) ((s.m.t (faTile f)).putFrame f (mread 0 s.m.mem (base + 64) 1024))).slidesCode [] s.m.icp.depths = 0) →
      Answers .icpLoadDone s fun t => ends t f ∧ (t.m.t (faTile f)).frames = (s.m.t (faTile f)).frames ∧
        (t.m.t (faTile f)).prog = mwrite 0 (s.m.t (faTile f)).prog (1024 * faIndex f) (mread 0 s.m.mem (base + 64) 1024)) ∧
    (∀ f, fs = [f] → faProg f = false → f < 2 ^ 32 → leNat (mread 0 s.m.mem base 64) = f →
      tget? s.m.icp.quiet r = none →
      ((s.m.tput (faTile f) ((s.m.t (faTile f)).putFrame f (mread 0 s.m.mem (base + 64) 1024))).slidesCode [8 * faTile f + faSlide f]
        s.m.icp.depths = 0) →
      Answers .icpLoadDone s fun t => ends t f ∧ (t.m.t (faTile f)).prog = (s.m.t (faTile f)).prog ∧
        (t.m.t (faTile f)).slState (faSlide f) ≠ 0 ∧
        (t.m.t (faTile f)).frames =
          mwrite 0 (s.m.t (faTile f)).frames (4096 * faSlide f + 1024 * faFrame f) (mread 0 s.m.mem (base + 64) 1024))
/-! Engine queues and transfers (R126, R127, R194 to R214). -/

/-- DESCRIPTOR_BURST_ARRIVE (R201): the next descriptors of the first list not wholly fetched, at most 16, stand at the end of the queue as
memory holds them; the rest of the queue stays. The list and the records that its descriptors name can be read. -/
def Sys2Proof.Claims.DescriptorBurst : Prop :=
  ∀ (s : State) (tile q n : Nat) (l : DList), kindOf tile = .mcore ∨ kindOf tile = .vcore →
    (s.m.e tile q).lists.find? (fun l => decide (l.fetched < l.count)) = some l → (s.m.e tile q).buf.length ≤ 48 → l.base % 32 = 0 →
    n = min 16 (l.count - l.fetched) → l.base + 32 * l.count ≤ 0x012000000000 → s.readable l.ctx →
    (∀ i < n, ∀ r ∈ (s.m.chk tile q).named (leNat (mread 0 s.m.mem (l.base + 32 * (l.fetched + i)) 32)), mapped r.1 r.2 = true) →
    (∀ i < n, descErr (s.m.chk tile q) (leNat (mread 0 s.m.mem (l.base + 32 * (l.fetched + i)) 32)) = 0) →
    Answers (.descriptorBurstArrive tile q) s fun t =>
      (t.m.e tile q).buf.take (s.m.e tile q).buf.length = (s.m.e tile q).buf ∧
      (t.m.e tile q).buf.length = (s.m.e tile q).buf.length + n ∧
      (∀ i < n, ∃ d, (t.m.e tile q).buf[(s.m.e tile q).buf.length + i]? = some d ∧
        d.raw = leNat (mread 0 s.m.mem (l.base + 32 * (l.fetched + i)) 32) ∧ d.idx = l.fetched + i ∧ d.lid = l.id ∧ d.ctx = l.ctx ∧
        d.started = false) ∧ t.m.mem = s.m.mem

/-- What a queue's head needs to start at once: it is the oldest not started, no fence runs and fewer than 48 are in flight, it carries no
dependence mark and no wait, its command runs and its tile is not quiescent (R202 to R204, R360). A dependence mark has its list read again
from the marked descriptor on; transfers of a replay list run on (R96, R203). -/
def Sys2Proof.Claims.SynchronisationDescriptors : Prop :=
  (∀ (s : State) (tile q : Nat) (d : Desc), (s.m.e tile q).buf.find? (fun d => !d.started) = some d → (s.m.e tile q).paused = false →
    (∀ x ∈ (s.m.e tile q).buf, x.started = true → hKind x.raw ≠ 0x41) →
    ((s.m.e tile q).buf.filter (fun x => x.started)).length ≤ 47 → hDep d.raw = false → hWaitCnt d.raw = 0 →
    (s.m.run? d.ctx).isSome = true → s.m.quietTile tile = false →
    (hKind d.raw = 0x01 → Answers (.syncDescriptor tile q) s fun t =>
      (t.m.e tile q).buf = (s.m.e tile q).buf.filter (fun x => x.seq != d.seq) ∧
      (hSigCnt d.raw ≠ 0 → tget 0 (t.m.t tile).sem (hSigSem d.raw) =
        min 65535 (tget 0 (s.m.t tile).sem (hSigSem d.raw) + hSigCnt d.raw)) ∧
      (hSigCnt d.raw = 0 → (t.m.t tile).sem = (s.m.t tile).sem)) ∧
    (hKind d.raw = 0x41 → exec (.fenceDescriptor tile q) s = .next { s with m := s.m.tput tile { s.m.t tile with
      eng := tset (s.m.t tile).eng q { s.m.e tile q with
        buf := (s.m.e tile q).buf.map (fun x => if x.seq = d.seq then { d with started := true } else x) } } })) ∧
  (∀ (s : State) (tile q : Nat) (d : Desc) (ds : List Desc), (s.m.e tile q).buf = d :: ds → hKind d.raw = 0x41 → d.started = true →
    s.m.quietAt tile q (fld d.raw 34 32) = true →
    Answers (.fenceDescriptorEnd tile q) s fun t =>
      (t.m.e tile q).buf = ds.filter (fun x => x.seq != d.seq) ∧
      (hSigCnt d.raw ≠ 0 → tget 0 (t.m.t tile).sem (hSigSem d.raw) =
        min 65535 (tget 0 (s.m.t tile).sem (hSigSem d.raw) + hSigCnt d.raw)) ∧
      (3 ≤ fld d.raw 34 32 → (t.m.e tile q).strict = true)) ∧
  (∀ (s : State) (tile q : Nat) (d : Desc) (ds : List Desc), (s.m.e tile q).buf = d :: ds → d.started = false → hDep d.raw = true →
    (s.m.e tile q).dep ≠ some d.seq → d.wait = 0 →
    exec (.dependenceMark tile q) s = .next { s with m := s.m.tput tile { s.m.t tile with
      eng := tset (s.m.t tile).eng q { s.m.e tile q with
        buf := (s.m.e tile q).buf.filter (fun x => decide (2 ^ 60 ≤ x.seq)), dep := some d.seq,
        lists := (s.m.e tile q).lists.map (fun l => { l with
          fetched := if l.id = d.lid then d.idx else if d.lid < l.id then 0 else l.fetched }) } } })

/-- TRANSFER_START (R194 to R199): a linear copy of LEN bytes between HBM ranges: every byte of the destination takes the source's byte,
and every other byte of memory stays; a copy to host memory hands the bytes to the PCIe controller in writes of its payload size, on
the tenancy's function; a sink transfer only starts. The dies on the way are awake and no earlier transfer has still to write. That an HBM
write acts when it is issued is the model's choice (log entry 18). -/
def Sys2Proof.Claims.TransferMovesBytes : Prop :=
  ∀ (s : State) (tile q : Nat) (d : Desc), q = 0 ∨ q = 3 → (q = 0 → (s.m.t tile).mc.round = false) →
    (s.m.e tile q).buf.find? (fun d => !d.started) = some d → (s.m.e tile q).paused = false →
    (∀ x ∈ (s.m.e tile q).buf, x.started = true → hKind x.raw ≠ 0x41) →
    ((s.m.e tile q).buf.filter (fun x => x.started)).length ≤ 47 → hDep d.raw = false → hWaitCnt d.raw = 0 →
    (s.m.run? d.ctx).isSome = true → s.m.quietTile tile = false → hKind d.raw = 0x10 → transferErr (s.m.chk tile q) d.raw = 0 →
    s.sound → Mem.wfD 0 s.m.mem = true → Mem.wfD 0 s.m.hmem = true → tConv d.raw = false → 0 < tLen d.raw → d.seq < 2 ^ 60 →
    tile < 1024 → (∀ x ∈ (s.m.e tile q).buf, x.writesLater = false) → (∀ u ∈ s.m.upd, u.core ≠ tile) →
    (tSm d.raw = 0 → tDm d.raw = 0 → tSrc d.raw + tLen d.raw ≤ 0x012000000000 → tDst d.raw + tLen d.raw ≤ 0x012000000000 →
      s.m.awake (tDie tile) (tSrc d.raw) (tLen d.raw) = true → s.m.mustWait tile (tDst d.raw) (tLen d.raw) = false →
      Answers (.transferStart tile q) s fun t =>
        (∀ b, t.byte b = if tDst d.raw ≤ b ∧ b < tDst d.raw + tLen d.raw then s.byte (tSrc d.raw + (b - tDst d.raw)) else s.byte b) ∧
        ∃ x ∈ (t.m.e tile q).buf, x.seq = d.seq ∧ x.started = true) ∧
    (tSm d.raw = 0 → tDm d.raw = 4 → tSrc d.raw + tLen d.raw ≤ 0x012000000000 →
      s.m.awake (tDie tile) (tSrc d.raw) (tLen d.raw) = true → Answers (.transferStart tile q) s fun t =>
        t.m.mem = s.m.mem ∧ (∀ b, mget 0 t.m.hmem b =
          if tDst d.raw ≤ b ∧ b < tDst d.raw + tLen d.raw then s.byte (tSrc d.raw + (b - tDst d.raw)) else mget 0 s.m.hmem b) ∧
        ∃ l, t.m.host.writes = l ++ s.m.host.writes ∧ (l.map (fun w => w.len)).sum = tLen d.raw ∧
          ∀ w ∈ l, w.fn = tenOf d.ctx ∧ w.msi = none ∧ w.len ≤ s.m.host.payload ∧ tDst d.raw ≤ w.addr ∧
            w.addr + w.len ≤ tDst d.raw + tLen d.raw) ∧
    (tSm d.raw = 2 → tDm d.raw ≠ 1 → (tDm d.raw = 3 → s.m.windowBusy tile q true (winSpan (tDst d.raw) (tLen d.raw)) = false) →
      Answers (.transferStart tile q) s fun t => t.m.mem = s.m.mem ∧
        ∃ x ∈ (t.m.e tile q).buf, x.seq = d.seq ∧ x.started = true)

/-- TRANSFER_COMPLETE (R131, R202): a transfer whose bytes have moved leaves its queue and performs its signal. -/
def Sys2Proof.Claims.TransferCompletes : Prop :=
  ∀ (s : State) (tile q seq : Nat) (d : Desc), (s.m.e tile q).buf.find? (fun d => d.seq == seq) = some d → d.started = true →
    hKind d.raw = 0x10 → (tSm d.raw = 2 → tLen d.raw ≤ d.off) → d.data = [] → d.rem = 0 →
    Answers (.transferComplete tile q seq) s fun t =>
      (t.m.e tile q).buf = (s.m.e tile q).buf.filter (fun x => x.seq != seq) ∧
      (hSigCnt d.raw ≠ 0 → tget 0 (t.m.t tile).sem (hSigSem d.raw) =
        min 65535 (tget 0 (s.m.t tile).sem (hSigSem d.raw) + hSigCnt d.raw)) ∧
      (∀ l, (s.m.e tile q).lists = [l] → l.id = d.lid → l.signalled + 1 = l.count → l.chan ≠ 0xFFFF →
        (t.m.e tile q).lists = [] ∧ t.m.msgs = s.m.msgs ++ [⟨l.ctx, l.chan, doneMsg tile q l, tile, 0⟩])

/-- The 64-byte completion message (R127): TILE, QUEUE, COUNT and LIST at their bytes, zero elsewhere. -/
def Sys2Proof.Claims.CompletionMessageLayout : Prop :=
  ∀ (tile q : Nat) (l : DList), tile < 1024 → q < 4 → l.count < 65536 → l.base < 2 ^ 48 →
    (doneMsg tile q l).length = 64 ∧ leNat ((doneMsg tile q l).take 2) = tile ∧ leNat (((doneMsg tile q l).drop 2).take 1) = q ∧
    leNat (((doneMsg tile q l).drop 4).take 4) = l.count ∧ leNat (((doneMsg tile q l).drop 8).take 8) = l.base ∧
    (((doneMsg tile q l).drop 16).all (fun b => b == 0)) = true ∧ leNat (((doneMsg tile q l).drop 3).take 1) = 0

/-! The matrix and vector engines (R55 to R116). -/

/-- MATRIX_SEGMENT_START and DRAIN_DESCRIPTOR_TAKE (R88, R92, R93): the head of queue 1 becomes the segment to load, in a fresh block with
FIRST; a segment out of order faults its command; the head of queue 2 is taken for the block that waits, its records read over awake ways. -/
def Sys2Proof.Claims.MatrixDescriptorsStart : Prop :=
  ∀ (s : State) (tile q : Nat) (d : Desc), (s.m.e tile q).buf.find? (fun d => !d.started) = some d → (s.m.e tile q).paused = false →
    (∀ x ∈ (s.m.e tile q).buf, x.started = true → hKind x.raw ≠ 0x41) →
    ((s.m.e tile q).buf.filter (fun x => x.started)).length ≤ 47 → hDep d.raw = false → hWaitCnt d.raw = 0 →
    (s.m.run? d.ctx).isSome = true → s.m.quietTile tile = false →
    let c := (s.m.t tile).mc
    (q = 1 → hKind d.raw = 0x21 → c.pass.src = [] → c.round = false →
      (c.breaks d.raw = false → (mFirst d.raw = true → c.nxt = none) → Answers (.matrixSegmentStart tile) s fun t =>
        let c' := (t.m.t tile).mc
        c'.pass.src = [(d.seq, d.raw)] ∧ c'.pass.ldK = 0 ∧ c'.opened = !mLast d.raw ∧ t.m.mem = s.m.mem ∧
        (mFirst d.raw = true → c.blk = none → c'.blk = some { id := c.nblk, ctx := d.ctx, segs := [(d.seq, d.raw)] }) ∧
        (mFirst d.raw = false → c.nxt = none → ∀ b, c.blk = some b → c'.blk = some { b with segs := b.segs ++ [(d.seq, d.raw)] })) ∧
      (c.breaks d.raw = true → ∀ r, s.m.run? d.ctx = some r → r.outcome = 0 → d.addr < 2 ^ 48 → Answers (.matrixSegmentStart tile) s fun t =>
        t.m.safe.events = s.m.safe.events ++ [⟨d.ctx, 0x0809, d.addr + tile * 2 ^ 48⟩] ∧ (t.m.t tile).mc = c)) ∧
    (q = 2 → hKind d.raw = 0x22 → s.sound → s.still → (∀ mt ten, s.m.tenOk mt ten = true) →
      (∀ a n, (a, n) = (homeAddr tile 0 (fld d.raw 236 215), 64) ∨ bitAt (s.m.xrec tile d.raw) 312 = true ∧
        (a, n) = (fld (s.m.xrec tile d.raw) 175 128, 128) → mapped a n = true ∧ s.m.awake (unitOf tile) a n = true) →
      ∀ b, c.prev = some b → c.taken = none →
      blockErr (s.m.chk tile 2) d.raw (mA b.shape) (mB b.shape) b.k (mCols b.shape) = 0 → Answers (.drainDescriptorTake tile) s fun t =>
        (t.m.t tile).mc = { c with taken := some (d.seq, d.raw) } ∧ t.m.mem = s.m.mem)

/-- CHUNK_LOADED (R57, R83, R85): the next at most 256 steps of K of the segment stand in a free half of the buffer, as memory holds them:
row r of A at k in home tile r / 128, column c of B in home tile c / 32. -/
def Sys2Proof.Claims.ChunkLoads : Prop :=
  ∀ (s : State) (tile seq x : Nat) (rest : List (Nat × Nat)), let c := (s.m.t tile).mc
    c.pass.src = (seq, x) :: rest → c.pass.half.length ≤ 1 → s.sound → s.still → c.pass.ldK < mK x →
    (∀ h ∈ homesOf tile, ∀ ten, s.m.tenOk (mtOf h) ten = true) →
    Answers (.chunkLoaded tile) s fun t => ∃ ch, (t.m.t tile).mc.pass.half = c.pass.half ++ [ch] ∧ t.m.mem = s.m.mem ∧
      ch.klen = min 256 (mK x - c.pass.ldK) ∧ ch.seg = seq ∧
      (∀ r kk, r < mRows x → kk < ch.klen → tget 0 ch.a (256 * r + kk) = leNat (mread 0 s.m.mem
        (tileBase (nth 0 (homesOf tile) (r / 128)) + ((if r < 128 then fld x 78 57 else fld x 100 79) +
          (c.pass.ldK + kk) * fld x 120 101 + r % 128 * fmtSize (mA x))) (fmtSize (mA x)))) ∧
      (∀ k kk, k < mCols x → kk < ch.klen → tget 0 ch.b (64 * kk + k) = leNat (mread 0 s.m.mem
        (tileBase (nth 0 (homesOf tile) (k / 32)) + ((if k < 32 then fld x 142 121 else fld x 164 143) +
          (c.pass.ldK + kk) * fld x 184 165 + k % 32 * fmtSize (mB x))) (fmtSize (mB x)))) ∧
      (mK x ≤ c.pass.ldK + 256 → (t.m.t tile).mc.pass.src = rest ∧ (t.m.t tile).mc.pass.ldK = 0) ∧
      (c.pass.ldK + 256 < mK x → (t.m.t tile).mc.pass.src = c.pass.src ∧ (t.m.t tile).mc.pass.ldK = c.pass.ldK + 256)

/-- A cell takes one product (R58): a null product changes only the flags; one above the bound of the pass changes only the flags; a
spread above 63 spills the cell; otherwise the window is aligned to the new anchor and the product added. -/
def Sys2Proof.Claims.CellTakesAProduct : Prop :=
  ∀ (c : Cell) (fl : Nat) (f q : Int), c.hi = none → c.lo = none → c.spill = false →
    let fl' := joinFlags c.flags fl
    c.take (fl, none) = { c with flags := fl', n := c.n + 1 } ∧
    (c.anc = none → c.fmin = none → c.fmax = none → c.win = 0 →
      c.take (fl, some (f, q)) =
        { c with flags := fl', n := c.n + 1, win := q * 2 ^ 63, anc := some f, fmin := some f, fmax := some f, acc := true }) ∧
    (∀ a b m : Int, c.anc = some a → c.fmin = some b → c.fmax = some m → b ≤ a → a ≤ m →
      (63 < max a f - min b f → (c.take (fl, some (f, q))).spill = true ∧ (c.take (fl, some (f, q))).win = c.win ∧
        (c.take (fl, some (f, q))).fmax = some (max m f)) ∧
      (max a f - min b f ≤ 63 → (c.take (fl, some (f, q))).spill = false ∧ (c.take (fl, some (f, q))).anc = some (max a f) ∧
        (c.take (fl, some (f, q))).win = c.win / 2 ^ (max a f - a).toNat + q * 2 ^ (f - max a f + 63).toNat))

/-- PASS_START, CELL_PRODUCT and PASS_END (R58, R61, R62, R71, R84): a pass starts on the first chunk with no cell begun; a live cell
takes its next product of the slice pair; a pass without spill ends with one record per live cell and one of flags alone per masked cell,
and moves to the next pair. Each clause concludes that the command answers a next state. -/
def Sys2Proof.Claims.MatrixPasses : Prop :=
  ∀ (s : State) (tile : Nat) (b : Blk) (ch : Chunk) (chs : List Chunk), let c := (s.m.t tile).mc
    c.target = some b → c.pass.half = ch :: chs →
    (c.pass.running = false → c.pass.later = [] →
      exec (.passStart tile) s = .next { s with m := s.m.mput tile { c with pass := { c.pass with running := true, cells := [] } } }) ∧
    (∀ o, c.pass.running = true → o ∈ c.live b.shape → (c.cell o).n < ch.klen →
      exec (.cellProduct tile o) s = .next { s with m := s.m.mput tile { c with pass := { c.pass with
        cells := tset c.pass.cells o ((c.cell o).take (sliceProduct (mA b.shape) (mB b.shape)
          (tget 0 ch.a (256 * (o / 64) + (c.cell o).n)) (tget 0 ch.b (64 * (c.cell o).n + o % 64)) c.pass.pi c.pass.pj)) } } }) ∧
    (c.pass.running = true → c.pass.kind = 0 → c.pass.recs = [] → c.pass.pj + 1 < sliceCount (mB b.shape) →
      (∀ o ∈ c.live b.shape, (c.cell o).n = ch.klen ∧ (c.cell o).spill = false) → Answers (.passEnd tile) s fun t =>
        let p := (t.m.t tile).mc.pass
        p.running = false ∧ p.kind = 0 ∧ p.pi = c.pass.pi ∧ p.pj = c.pass.pj + 1 ∧ p.half = c.pass.half ∧ t.m.mem = s.m.mem ∧
        p.recs = (c.live b.shape).map (fun o =>
          ⟨b.id, o, if (c.cell o).acc then (c.cell o).win else 0, (c.cell o).anc.getD 0, (c.cell o).flags, (c.cell o).acc, c.pass.pi + c.pass.pj⟩) ++
          ((List.range 16384).filter (fun o => decide (mRows b.shape ≤ o / 64) || decide (mCols b.shape ≤ o % 64))).map
            (fun o => ⟨b.id, o, 0, 0, 8, false, c.pass.pi + c.pass.pj⟩))

/-- FIX_DRAIN_RECORD and LONG_FORM_STALL_END (R64, R66, R71): the first record enters its output's tank. A record with nothing
accumulated changes only the flags; into an empty tank the accumulator takes the window's value scaled by the anchor and the slice
offset, with an odd mantissa. A drain that had stalled goes on by LONG_FORM_STALL_END, any other by FIX_DRAIN_RECORD; both answer a next
state. -/
def Sys2Proof.Claims.FixUnitDrains : Prop :=
  ∀ (s : State) (tile : Nat) (b : Blk) (r : DrainRec) (rs : List DrainRec), let c := (s.m.t tile).mc
    c.pass.recs = r :: rs → rs ≠ [] → c.round = false → c.prev = none → c.blk = some b → b.closed = false → b.id = r.blk →
    let run (P : State → Prop) : Prop := (c.pass.stalled = true → Answers (.longFormStallEnd tile) s P) ∧
      (c.pass.stalled = false → Answers (.fixDrainRecord tile) s P)
    let k := tget {} b.tanks r.out
    (r.acc = false ∨ r.win = 0 → run fun t => (t.m.t tile).mc.pass.recs = rs ∧ (t.m.t tile).mc.pass.stalled = false ∧ t.m.mem = s.m.mem ∧
      (t.m.t tile).mc.blk = some { b with tanks := tset b.tanks r.out { k with flags := joinFlags k.flags r.flags } }) ∧
    (r.acc = true → r.win ≠ 0 → r.win.natAbs < 2 ^ 88 → k = {} → run fun t =>
      (t.m.t tile).mc.pass.recs = rs ∧ t.m.mem = s.m.mem ∧ ∃ b' k', (t.m.t tile).mc.blk = some b' ∧ b'.tanks = tset b.tanks r.out k' ∧
        k'.empty = false ∧ k'.mode = 0 ∧ k'.w % 2 = 1 ∧ r.anc - 77 - 8 * (r.d : Int) ≤ k'.a ∧
        k'.w * 2 ^ (k'.a - (r.anc - 77 - 8 * (r.d : Int))).toNat = r.win ∧ k'.flags = joinFlags k.flags r.flags)

/-- FINALISE_BLOCK and DRAIN_WRITES_DONE (R70, R75, R89): with no deferred output, no chain and no HOLD, a block of one output writes its value,
rounded into FMT, as one line at OUT that the store engine writes, and updates its maximum word, their ways being awake; the drain descriptor waits for its
writes and then signals. -/
def Sys2Proof.Claims.BlockFinalises : Prop :=
  (∀ (s : State) (tile seq x xr mt : Nat) (b : Blk), let c := (s.m.t tile).mc
    c.prev = some b → c.taken = some (seq, x) → c.round = false → (∀ p ∈ b.tanks, p.2.mode ≠ 3) → b.written = [] → b.slots = [] →
    s.sound → mRows b.shape = 1 → mCols b.shape = 1 → (∀ p ∈ b.segs, mHold p.2 = false) → xr = s.m.xrec tile x → bitAt xr 312 = false →
    dExport x = false → bitAt xr 314 = false → (tget {} b.tanks 0).mode ≤ 1 → mapped (fld xr 47 0) 4 = true →
    let out := fld x 194 147
    s.m.mustWait tile out (fmtSize (dFmt x)) = false → s.m.mustWait tile (fld xr 47 0) 4 = false →
    targetOf out = .sp mt → mapped out (fmtSize (dFmt x)) = true → out % 64 + fmtSize (dFmt x) ≤ 64 → 0 < fmtSize (dFmt x) →
    Answers (.finaliseBlock tile) s fun t =>
      let v := Tank.value (s.m.chk tile 2).rd c.pool xr (tget {} b.tanks 0)
      let r : Rnd := { rc := fld x 39 37, sat := bitAt x 40, srw := fld x 42 41, seed := (s.m.cx b.ctx).seed, tensor := fld x 66 51, elem := dEbase x }
      (t.m.t tile).mc.taken = none ∧ (t.m.t tile).mc.fin = c.fin ++ [seq] ∧
      (mA b.shape ≠ 4 → mB b.shape ≠ 4 →
        (∃ q ∈ (t.m.t (mtTile mt)).reqs, q.addr = out ∧ q.core = tile ∧ q.q = 3 ∧ q.upd = none ∧
          q.bytes = natLE (fmtSize (dFmt x)) (convertNum (dFmt x) r (sgn 8 (fld x 50 43)) v.num)) ∧
        (∀ k, targetOf (fld xr 47 0) = .sp k → ∃ q ∈ (t.m.t (mtTile k)).reqs, q.addr = fld xr 47 0 ∧ q.upd = some 0 ∧
          q.bytes = natLE 4 (max b.maxw (maxPattern v.num))) ∧
        (fld xr 47 0 < 0x012000000000 →
          t.m.upd = s.m.upd ++ [⟨0, fld xr 47 0, max b.maxw (maxPattern v.num) % 2 ^ 32, b.ctx, tile, 2⟩]) ∧ t.m.mem = s.m.mem)) ∧
  (∀ (s : State) (tile seq : Nat) (rest : List Nat) (d : Desc), (s.m.t tile).mc.fin = seq :: rest →
    (s.m.e tile 2).buf.find? (fun d => d.seq == seq) = some d →
    Answers (.drainWritesDone tile) s fun t =>
      (t.m.t tile).mc.fin = rest ∧ (t.m.e tile 2).buf = (s.m.e tile 2).buf.filter (fun x => x.seq != seq) ∧
      (hSigCnt d.raw ≠ 0 → tget 0 (t.m.t tile).sem (hSigSem d.raw) =
        min 65535 (tget 0 (s.m.t tile).sem (hSigSem d.raw) + hSigCnt d.raw)))

/-- VECTOR_DESCRIPTOR_START and COMPLETE (R106, R111, R113): one element of an addition without extension is the exact sum of the operands
rounded once into the output format; a descriptor whose writes are complete records its maximum and signals. -/
def Obligations.VectorDescriptors : Prop :=
  (∀ (s : State) (tile mt : Nat) (d : Desc), (s.m.e tile 1).buf.find? (fun d => !d.started) = some d → (s.m.e tile 1).paused = false →
    (∀ x ∈ (s.m.e tile 1).buf, x.started = true → hKind x.raw ≠ 0x41) →
    ((s.m.e tile 1).buf.filter (fun x => x.started)).length ≤ 47 → hDep d.raw = false → hWaitCnt d.raw = 0 →
    (s.m.run? d.ctx).isSome = true → s.m.quietTile tile = false → hKind d.raw = 0x31 → descErr (s.m.chk tile 1) d.raw = 0 →
    s.sound → s.still → tile < 1024 → (∀ mt ten, s.m.tenOk mt ten = true) →
    let x := d.raw
    vOp x = 1 → vN x = 1 → bitAt x 61 = false →
    let xa := spBase + fld x 92 62
    let ya := spBase + fld x 123 93
    let out := spBase + fld x 185 155
    let fx := fld x 41 38
    let fy := fld x 45 42
    let fo := fld x 53 50
    out = mtBase mt + out % 0x400000 → mt < 288 → out % 64 + fmtSize fo ≤ 64 →
    mapped xa (fmtSize fx) = true → mapped ya (fmtSize fy) = true →
    s.m.awake (tDie tile) out (fmtSize fo) = true → s.m.awake (tDie tile) xa (fmtSize fx) = true → s.m.awake (tDie tile) ya (fmtSize fy) = true → 0 < fmtSize fx → 0 < fmtSize fy → 0 < fmtSize fo →
    Answers (.vectorDescriptorStart tile) s fun t => t.m.mem = s.m.mem ∧ (∃ e ∈ (t.m.e tile 1).buf, e.seq = d.seq ∧ e.started = true) ∧
      ∃ r : Rnd, r.rc = fld x 56 54 ∧ r.sat = bitAt x 57 ∧ r.srw = fld x 59 58 ∧ ∃ q ∈ (t.m.t (mtTile mt)).reqs, q.addr = out ∧
        q.bytes = natLE (fmtSize fo) (roundNum fo r (xadd (decodeNum fx (s.m.rdn xa (fmtSize fx))) (decodeNum fy (s.m.rdn ya (fmtSize fy)))))) ∧
  (∀ (s : State) (tile seq : Nat) (d : Desc), (s.m.e tile 1).buf.find? (fun d => d.seq == seq) = some d → d.started = true →
    hKind d.raw = 0x31 → d.maxw = 0 ∨ mapped d.maxa 4 = true →
    Answers (.vectorDescriptorComplete tile seq) s fun t =>
      (t.m.e tile 1).buf = (s.m.e tile 1).buf.filter (fun x => x.seq != seq) ∧
      (hSigCnt d.raw ≠ 0 → tget 0 (t.m.t tile).sem (hSigSem d.raw) =
        min 65535 (tget 0 (s.m.t tile).sem (hSigSem d.raw) + hSigCnt d.raw)) ∧
      (∀ k, d.maxw ≠ 0 → targetOf d.maxa = .sp k → s.m.mustWait tile d.maxa 4 = false → ∃ r ∈ (t.m.t (mtTile k)).reqs, r.addr = d.maxa ∧ r.upd = some 0 ∧
        r.bytes = natLE 4 (d.maxw - 1)))

/-- Every value that is not NaN of a number format of Table 2.1 rounds to its own pattern: decoding drops no bit and rounding adds none. -/
def Sys2Proof.Claims.FormatRoundTrip : Prop :=
  ∀ fmt x : Nat, fmt < 6 → x < 2 ^ (8 * fmtSize fmt) → (decodeNum fmt x).isNaN = false → roundNum fmt {} (decodeNum fmt x) = x

/-- Adding exact records (R33): the sum holds both values exactly, its flags are the OR of NAN, PINF and NINF and the AND of NEGZ, and any
order and grouping gives the same value and flags; the empty record is the identity. -/
def Sys2Proof.Claims.RecordSumIsExact : Prop :=
  ∀ (x y z : Epr) (b : Int), b ≤ x.a → b ≤ y.a → b ≤ z.a → b ≤ 0 →
    let same (u v : Epr) : Prop := u.windowAt b = v.windowAt b ∧ u.flagBits = v.flagBits
    (x.add y).windowAt b = x.windowAt b + y.windowAt b ∧
    (x.add y).nan = (x.nan || y.nan) ∧ (x.add y).pinf = (x.pinf || y.pinf) ∧ (x.add y).ninf = (x.ninf || y.ninf) ∧
    (x.add y).negz = (x.negz && y.negz) ∧
    same (x.add y) (y.add x) ∧ same ((x.add y).add z) (x.add (y.add z)) ∧ same (x.add Epr.empty) x ∧
    Epr.empty.windowAt b = 0 ∧ Epr.empty.flagBits = 8
/-! Memory tiles (R21, R138 to R149, R407, R415). -/

/-- MEM_TILE_REQUEST (R144, R145, R149): a tile that is awake serves the only request waiting at the bank: a write's bytes, or an update's
result, stand in memory, every other byte stays, and the request is gone; a tenancy that does not own the tile writes nothing and aborts
its command (R140). -/
def Sys2Proof.Claims.MemoryTileServes : Prop :=
  ∀ (s : State) (mt bank cycle : Nat) (r : LineReq), mt < 288 → let q := s.m.t (mtTile mt)
    s.sound → q.gated = false → q.ungating = false → s.m.sleeps (mt / 72) = false → q.reqs = [r] → r.addr / 64 % 16 = bank → r.port ≤ 2 →
    r.own = 0 ∨ r.own ≠ 0 ∧ q.slotEntry bank (cycle % 16) = r.own →
    (s.m.tenOk mt r.ten = true → Mem.wfD 0 s.m.mem = true → r.upd = none → Answers (.memTileRequest mt bank cycle) s fun t =>
      (∀ b, t.byte b = if r.addr ≤ b ∧ b < r.addr + r.bytes.length then nth 0 r.bytes (b - r.addr) else s.byte b) ∧
      (t.m.t (mtTile mt)).reqs = []) ∧
    (∀ op, s.m.tenOk mt r.ten = true → Mem.wfD 0 s.m.mem = true → r.upd = some op → op ≤ 1 → r.bytes.length = 4 →
      Answers (.memTileRequest mt bank cycle) s fun t => (t.m.t (mtTile mt)).reqs = [] ∧
        t.m.rdn r.addr 4 = (if op = 0 then max (s.m.rdn r.addr 4) (leNat r.bytes) else min (s.m.rdn r.addr 4 + leNat r.bytes) (2 ^ 32 - 1)) ∧
        (∀ b, b < r.addr ∨ r.addr + 4 ≤ b → t.byte b = s.byte b)) ∧
    (s.m.tenOk mt r.ten = false → r.bytes ≠ [] → ∀ u, s.m.run? r.ctx = some u → u.outcome = 0 → Answers (.memTileRequest mt bank cycle) s fun t =>
      t.m.mem = s.m.mem ∧ (t.m.t (mtTile mt)).reqs = [] ∧
      t.m.safe.events = s.m.safe.events ++ [⟨r.ctx, 0x0807, r.addr + mtTile mt * 2 ^ 48⟩])

/-- MEM_SIDE_UPDATE (R149): MAXU32 leaves the larger of the word and the operand, ADDU32S their sum up to 2^32 - 1; only the word's four
bytes change. -/
def Sys2Proof.Claims.MemorySideUpdates : Prop :=
  ∀ (s : State) (i : Nat) (u : Upd), s.m.upd[i]? = some u → u.op ≤ 1 → u.val < 2 ^ 32 → Mem.wfD 0 s.m.mem = true → s.sound →
    (∀ mt, targetOf u.addr = .sp mt → s.m.tenOk mt (tenBy u.core u.ctx) = true) →
    Answers (.memSideUpdate i) s fun t =>
      t.m.rdn u.addr 4 = (if u.op = 0 then max (s.m.rdn u.addr 4) u.val else min (s.m.rdn u.addr 4 + u.val) (2 ^ 32 - 1)) ∧
      (∀ b, b < u.addr ∨ u.addr + 4 ≤ b → t.byte b = s.byte b) ∧ t.m.upd = s.m.upd.eraseIdx i

/-- ECC_WRITE_BACK, MEMORY_SCRUB, TILE_UNGATE_DONE and TILE_REGATE (R21, R138, R147, R407, R415): no byte of memory changes; a scrub that
meets a correctable mark counts it and clears the mark; a tile's clock starts and stops. -/
def Sys2Proof.Claims.MemoryUpkeep : Prop :=
  (∀ (s : State) (mt bank i a : Nat), (s.m.t (mtTile mt)).wback[i]? = some a → a / 64 % 16 = bank →
    (∀ j < i, ∀ b, (s.m.t (mtTile mt)).wback[j]? = some b → b / 64 % 16 ≠ bank) →
    exec (.eccWriteBack mt bank) s = .next { s with m := s.m.tput (mtTile mt) { s.m.t (mtTile mt) with
      wback := (s.m.t (mtTile mt)).wback.eraseIdx i } }) ∧
  (∀ (s : State) (u kind w : Nat), u < 288 → s.m.mon.inject = some (kind, w) → kind % 2 = 1 →
    0x080000000000 + u * 0x400000 ≤ w → w + 8 ≤ 0x080000000000 + (u + 1) * 0x400000 → Answers (.memoryScrub u) s fun t =>
      t.m.mon.inject = none ∧ t.m.mem = s.m.mem ∧ t.m.rg 0x500030 = min (s.m.rg 0x500030 + 1) (2 ^ 32 - 1) ∧
      (t.m.t (mtTile u)).wback = (s.m.t (mtTile u)).wback ++ [w / 64 * 64]) ∧
  (∀ (s : State) (mt : Nat), (s.m.t (mtTile mt)).ungating = true → exec (.tileUngateDone mt) s =
    .next { s with m := s.m.tput (mtTile mt) { s.m.t (mtTile mt) with gated := false, ungating := false } }) ∧
  (∀ (s : State) (mt : Nat), mt < 288 → (s.m.die (mt / 72)).st = 1 → (s.m.t (mtTile mt)).gated = false →
    (s.m.t (mtTile mt)).reqs = [] → (s.m.t (mtTile mt)).slot = [] →
    exec (.tileRegate mt) s = .next { s with m := s.m.tput (mtTile mt) { s.m.t (mtTile mt) with gated := true } })

/-! The fabric (R156 to R191). -/

/-- TOKEN_HEAD (R164 to R166): a head with no route entry faults its command with ROUTE_MISS; one to be forwarded moves whole to the queue
its entry names in the neighbour tile when a place is free. That a token sent over the package's edge simply leaves its queue is the model's
choice (log entry 53). -/
def Sys2Proof.Claims.TokenForwards : Prop :=
  ∀ (s : State) (tile qid : Nat) (k : Token) (ks : List Token), let q := s.m.t tile
    s.m.mon.fltState = 0 → q.commit = none → qid < 32 → q.q qid = k :: ks → q.discard.contains k.epoch = false → q.usable k.epoch = true →
    (q.entry k.epoch (qid / 8) k.stream = none → ∀ r, s.m.run? (s.m.ctxAt tile) = some r → r.outcome = 0 →
      (s.m.e tile 3).buf = [] → Answers (.tokenHead tile qid) s fun t => (t.m.t tile).q qid = ks ∧ t.m.mem = s.m.mem ∧
        (t.m.t tile).missed = q.missed + 1 ∧ t.m.safe.events = s.m.safe.events ++ [⟨s.m.ctxAt tile, 0x080A, k.stream + tile * 2 ^ 48⟩]) ∧
    (∀ r t2 inp, q.entry k.epoch (qid / 8) k.stream = some r → rAction r = 0 → neighbour tile (rOut r) = some (t2, inp) → t2 ≠ tile →
      ((s.m.t t2).q (8 * inp + rNext r)).length < queueCap t2 (8 * inp + rNext r) → (s.m.e tile 3).buf = [] → q.sigs = [] →
      Answers (.tokenHead tile qid) s fun t => (t.m.t tile).q qid = ks ∧ t.m.mem = s.m.mem ∧
        (t.m.t t2).q (8 * inp + rNext r) = (s.m.t t2).q (8 * inp + rNext r) ++ [k]) ∧
    (∀ r, q.entry k.epoch (qid / 8) k.stream = some r → rAction r = 0 → neighbour tile (rOut r) = none → (s.m.e tile 3).buf = [] →
      q.sigs = [] → Answers (.tokenHead tile qid) s fun t => (t.m.t tile).q qid = ks ∧ t.m.mem = s.m.mem) ∧
    (∀ r d, q.entry k.epoch (qid / 8) k.stream = some r → rAction r = 1 → k.epoch = q.cur → q.changing = none → s.m.quietTile tile = false →
      k.commit = false → k.data.length = 64 → (s.m.e tile 3).buf = [] → q.sigs = [] → tDm d.raw = 3 →
      (s.m.e tile 0).buf.find? (fun d => d.started && hKind d.raw == 0x10 && tSm d.raw == 2 && tSrc d.raw % 8 == rOut r && decide (d.off < tLen d.raw))
        = some d → Answers (.tokenHead tile qid) s fun t => (t.m.t tile).q qid = ks ∧ t.m.mem = s.m.mem ∧
        ∃ x ∈ (t.m.e tile 0).buf, x.seq = d.seq ∧ x.off = d.off + min 64 (tLen d.raw - d.off) ∧
          x.data = d.data ++ k.data.take (min 64 (tLen d.raw - d.off)))

/-- STEER_FIRE (R172, R173): a fork puts its data head into the local queue of its output and takes it from its own; a switch puts it into the
output that the selector names, and a selector value outside its outputs drops both heads and faults the command with STEER_RANGE. -/
def Sys2Proof.Claims.SteeringFires : Prop :=
  ∀ (s : State) (tile u : Nat), let q := s.m.t tile
    let w := q.unit q.cur u
    s.m.mon.fltState = 0 → q.changing = none → s.m.quietTile tile = false → (s.m.e tile 3).buf = [] → q.commit = none → q.sigs = [] →
    (∀ k o, uKind w = 3 → fld w 22 21 = 0 → q.shead (uDq0 w) = some k → k.commit = false → uDq0 w < 32 →
      q.localQ (fld w 36 24) = some o → (q.q o).length < queueCap tile o →
      Answers (.steerFire tile u) s fun t => (t.m.t tile).q (uDq0 w) = (q.q (uDq0 w)).drop 1 ∧ t.m.mem = s.m.mem ∧
        (t.m.t tile).q o = q.q o ++ [⟨k.data, fld w 36 24, q.cur, false⟩]) ∧
    (∀ k c o, uKind w = 1 → uCq w < 32 → uDq0 w < 32 → uCq w ≠ uDq0 w → q.shead (uDq0 w) = some k → q.shead (uCq w) = some c →
      k.commit = false → c.commit = false → (nth 0 c.data 0).toNat < (uOuts w).length →
      q.localQ (nth 0 (uOuts w) (nth 0 c.data 0).toNat) = some o → (q.q o).length < queueCap tile o →
      Answers (.steerFire tile u) s fun t => (t.m.t tile).q (uDq0 w) = (q.q (uDq0 w)).drop 1 ∧ t.m.mem = s.m.mem ∧
        (t.m.t tile).q o = q.q o ++ [⟨k.data, nth 0 (uOuts w) (nth 0 c.data 0).toNat, q.cur, false⟩]) ∧
    (∀ k c r, uKind w = 1 → uCq w ≠ uDq0 w → q.shead (uDq0 w) = some k → q.shead (uCq w) = some c → k.commit = false → c.commit = false →
      (uOuts w).length ≤ (nth 0 c.data 0).toNat → s.m.run? (s.m.ctxAt tile) = some r → r.outcome = 0 →
      Answers (.steerFire tile u) s fun t => (t.m.t tile).q (uDq0 w) = (q.q (uDq0 w)).drop 1 ∧
        (t.m.t tile).q (uCq w) = (q.q (uCq w)).drop 1 ∧ t.m.mem = s.m.mem ∧
        t.m.safe.events = s.m.safe.events ++ [⟨s.m.ctxAt tile, 0x080B, u + tile * 2 ^ 48⟩])

/-- Slides and the carousel (R178 to R182, R190): a change starts once the wanted slide is valid and the old epoch's tokens are gone, and
ends with that slide current; a carousel descriptor goes to its step, and signals at once where the step's slide is current, or is held by
a change in progress; a tile that may switch takes its staged program. -/
def Sys2Proof.Claims.SlidesChange : Prop :=
  (∀ (s : State) (tile e : Nat), let q := s.m.t tile
    s.m.mon.fltState = 0 → q.want = some e → q.changing = none → q.slState e ≠ 0 → q.holds q.cur = false → q.frozen = false → s.m.quietTile tile = false →
    exec (.slideChangeStart tile) s = .next { s with m := s.m.tput tile { q with changing := some e, want := none, stall := false } }) ∧
  (∀ (s : State) (tile e : Nat), let q := s.m.t tile
    s.sound → q.changing = some e → q.steps = [] → q.sigs = [] → (s.m.e tile 3).buf = [] → q.commit = none →
    Answers (.slideChangeDone tile) s fun t => (t.m.t tile).cur = e ∧ (t.m.t tile).changing = none ∧ (t.m.t tile).frames = q.frames ∧
      (t.m.t tile).slide = q.slide ∧ (t.m.t tile).queues = q.queues ∧ t.m.mem = s.m.mem) ∧
  (∀ (s : State) (tile qn : Nat) (d : Desc), let q := s.m.t tile
    s.m.mon.fltState = 0 → q.frozen = false → (s.m.e tile qn).buf.find? (fun d => !d.started) = some d → (s.m.e tile qn).paused = false →
    (∀ x ∈ (s.m.e tile qn).buf, x.started = true → hKind x.raw ≠ 0x41) →
    ((s.m.e tile qn).buf.filter (fun x => x.started)).length ≤ 47 → hDep d.raw = false → hWaitCnt d.raw = 0 → hKind d.raw = 0x40 →
    (s.m.run? d.ctx).isSome = true → s.m.quietTile tile = false →
    let i := fld d.raw 36 32
    let e := fld (q.prog' q.home i) 4 2
    (q.changing = none → fld (q.prog' q.home i) 1 0 = 0 → e = q.cur → q.sigs = [] → Answers (.carouselDescriptor tile qn) s fun t =>
      (t.m.t tile).step = i ∧ (t.m.t tile).left = 0 ∧ (t.m.t tile).want = none ∧ (t.m.t tile).cur = q.cur ∧ (t.m.t tile).sigs = [] ∧
      (t.m.e tile qn).buf = (s.m.e tile qn).buf.filter (fun x => x.seq != d.seq) ∧
      (hSigCnt d.raw ≠ 0 → tget 0 (t.m.t tile).sem (hSigSem d.raw) = min 65535 (tget 0 q.sem (hSigSem d.raw) + hSigCnt d.raw)) ∧
      t.m.mem = s.m.mem) ∧
    (q.changing = none → fld (q.prog' q.home i) 1 0 = 0 → e ≠ q.cur → Answers (.carouselDescriptor tile qn) s fun t =>
      (t.m.t tile).step = i ∧ (t.m.t tile).left = 0 ∧ (t.m.t tile).want = some e ∧ (t.m.t tile).sigs = q.sigs ++ [(qn, d.seq)] ∧
      t.m.mem = s.m.mem) ∧
    (q.changing ≠ none → Answers (.carouselDescriptor tile qn) s fun t => (t.m.t tile).steps = q.steps ++ [(i, qn, d.seq)] ∧
      (t.m.t tile).changing = q.changing ∧ (t.m.t tile).step = q.step ∧ t.m.mem = s.m.mem ∧
      ∃ x ∈ (t.m.e tile qn).buf, x.seq = d.seq ∧ x.started = true)) ∧
  (∀ (s : State) (tile : Nat), let q := s.m.t tile
    s.m.mon.fltState = 0 → q.maySwitch tile = true → s.m.quietTile tile = false → s.m.icp.pend = [] → Answers (.tileSwitch tile) s fun t => let p := t.m.t tile
      p.home = q.stagedHome ∧ p.commit = none ∧ p.want = none ∧ p.changing.isSome = true ∧ p.left = 0 ∧
      (∀ e, e < 8 → q.slState e ≠ 0 → p.slState e = if e = q.stagedHome ∨ q.names q.stagedHome e = true then 1 else 2) ∧ t.m.mem = s.m.mem)

/-- COMMIT_ARRIVE (R188): the pending commit has reached the tile, with its number kept. -/
def Sys2Proof.Claims.CommitArrives : Prop :=
  ∀ (s : State) (tile : Nat) (c : TileCommit), s.m.mon.fltState = 0 → (s.m.t tile).commit = some c → (s.m.e tile 3).buf = [] →
    Answers (.commitArrive tile) s fun t => t.m.mem = s.m.mem ∧ ∃ c', (t.m.t tile).commit = some c' ∧ c'.c = c.c ∧ c'.arrived = true ∧ c'.got = c.got
/-! The Groomer (R262 to R293). -/

/-- The master after an update (R279): HI is the exact sum HI + LO + delta rounded to FP32, LO what HI leaves of it, rounded; the other
words of the block stay. -/
def Sys2Proof.Claims.GroomerMaster : Prop :=
  ∀ (bs : List Byte) (i : Nat) (z : List XVal), bs.length = 256 → i < 15 → z.length = 8 →
    let s := xadd (xadd (decodeNum 3 (blkSlot bs i 0)) (decodeNum 3 (blkSlot bs i 1))) (nth .nan z 7)
    (∀ n m e, s = .fin n m e → blkSlot (gSlot bs i z) i 0 = roundNum 3 {} s ∧
      blkSlot (gSlot bs i z) i 1 = roundNum 3 {} (xadd s (xneg (decodeNum 3 (roundNum 3 {} s))))) ∧
    blkSlot (gSlot bs i z) i 2 = roundNum 3 {} (nth .nan z 1) ∧ blkSlot (gSlot bs i z) i 3 = roundNum 3 {} (nth .nan z 2) ∧
    (gSlot bs i z).length = 256 ∧ (∀ j, j < 16 + 16 * i ∨ 32 + 16 * i ≤ j → (gSlot bs i z)[j]? = bs[j]?)

/-- A block sealed at a step carries that step, its held mark and a check code that holds (R263, R264). -/
def Sys2Proof.Claims.SealedBlockChecks : Prop :=
  ∀ (bs : List Byte) (step : Nat) (held : Bool), bs.length = 256 → step < 2 ^ 48 →
    blkOk (blkSeal bs step held) = true ∧ blkStep (blkSeal bs step held) = step ∧ blkHeld (blkSeal bs step held) = held ∧
    (blkSeal bs step held).length = 256 ∧ (blkSeal bs step held).drop 16 = bs.drop 16

/-- GROOMER_RECORD (R270, R285, R290): a gradient is rounded once to FP32 and counted; while the Groomer is halted nothing is written, and an
element-wise entry with a check writes it to HOLD + 4n, whose way is free: the write waits at that memory tile, and no byte changes before it
is served. -/
def Obligations.GroomerTakesAGradient : Prop :=
  ∀ (s : State) (d r : Nat) (rest : List Nat) (e : GEnt), let g := s.m.g d
    d < 4 → s.sound → g.cur = some e → g.inq = r :: rest → e.got + 1 ≠ gN e.raw → s.m.ers.coll = [] →
    let raw := convertNum 3 {} (sgn 8 (fld e.raw 287 280)) (Epr.ofNat g.form r).num
    (s.m.gHalted d = true → Answers (.groomerRecord d) s fun t => t.m.mem = s.m.mem ∧ (t.m.g d).inq = rest ∧
      ∃ e', (t.m.g d).cur = some e' ∧ e'.got = e.got + 1 ∧ e'.nan = e.nan + b2n (decodeNum 3 raw).isNaN) ∧
    (s.m.gHalted d = false → gMatrix e.raw = false → gCheck e.raw ≠ 0 → gHold e.raw % 4 = 0 →
      ∀ mt, targetOf (gHold e.raw + 4 * e.got) = .sp mt → mapped (gHold e.raw + 4 * e.got) 4 = true →
      s.m.mustWait (groomerId d) (gHold e.raw + 4 * e.got) 4 = false →
      Answers (.groomerRecord d) s fun t => (∃ q, (t.m.t (mtTile mt)).reqs = (s.m.t (mtTile mt)).reqs ++ [q] ∧
          q.addr = gHold e.raw + 4 * e.got ∧ q.bytes = natLE 4 raw ∧ q.core = groomerId d ∧ q.upd = none) ∧
        t.m.mem = s.m.mem ∧ (t.m.g d).inq = rest ∧
        ∃ e', (t.m.g d).cur = some e' ∧ e'.got = e.got + 1 ∧
          e'.sum = e.sum.add (Epr.ofNum (xmul (decodeNum 3 raw) (decodeNum 3 raw))))

/-- GROOMER_BLOCK_ARRIVE (R271, R292, R293): a block whose code and tag hold stands in the window, marked where it is already at the step;
a bad code or another step aborts the command; memory stays. The way to the block, and to the entry ahead that it belongs to, is awake. -/
def Sys2Proof.Claims.GroomerBlockArrives : Prop :=
  ∀ (s : State) (d c a step : Nat) (ahead : Option Nat) (r : Run), let g := s.m.g d
    d < 4 → g.ctx = some c → s.m.gNextBlock d = some (.block a step ahead) → s.sound → (∀ u ∈ s.m.upd, u.core ≠ groomerId d) →
    mapped a 256 = true → a + 256 ≤ spBase → s.m.awake d a 256 = true →
    (∀ n, ahead = some n → let b := fld (s.m.gRec d) 47 0 + 128 * n
      mapped b 128 = true ∧ b + 128 ≤ spBase ∧ s.m.awake d b 128 = true ∧ entryErr s.m.resident d (s.m.gEntry d n) = 0) →
    g.win.length + g.stage.length < 32768 → g.stopped = false → s.m.gHalted d = false →
    s.m.run? c = some r → r.outcome = 0 → g.mats = [] → g.closing = none → a + 256 < 2 ^ 48 →
    let bs := mread 0 s.m.mem a 256
    (blkOk bs = true → blkStep bs = step ∨ (blkStep bs + 1) % 2 ^ 48 = step → Answers (.groomerBlockArrive d) s fun t =>
      (t.m.g d).win = g.win ++ [⟨a, bs, blkStep bs == step⟩] ∧ t.m.mem = s.m.mem ∧ t.m.safe.events = s.m.safe.events) ∧
    (blkOk bs = false → Answers (.groomerBlockArrive d) s fun t => (t.m.g d).win = g.win ∧ t.m.mem = s.m.mem ∧
      t.m.safe.events = s.m.safe.events ++ [⟨c, 0x080C, a + d * 2 ^ 48⟩]) ∧
    (blkOk bs = true → blkStep bs ≠ step → (blkStep bs + 1) % 2 ^ 48 ≠ step → Answers (.groomerBlockArrive d) s fun t =>
      (t.m.g d).win = g.win ∧ t.m.mem = s.m.mem ∧ t.m.safe.events = s.m.safe.events ++ [⟨c, 0x080D, a + d * 2 ^ 48⟩])

/-- WC_WRITE_ISSUE (R280, R291): the oldest staged block is written, its working copies follow with their maximum word's update, and no other
byte changes. The ways are free. -/
def Sys2Proof.Claims.GroomerWritesABlock : Prop :=
  ∀ (s : State) (d p v : Nat) (w : GWrite) (rest : List GWrite), let g := s.m.g d
    s.sound → g.stage = w :: rest → w.bytes.length = 256 → w.wc = [(p, v)] → p + 2 ≤ w.addr ∨ w.addr + 256 ≤ p → d < 4 → mapped p 2 = true →
    p + 2 ≤ spBase → mapped w.addr 256 = true → w.addr + 256 ≤ spBase → s.m.mustWait (groomerId d) w.addr 256 = false →
    s.m.mustWait (groomerId d) p 2 = false → (∀ u ∈ s.m.upd, u.core ≠ groomerId d) → (∀ x, w.maxw = some x → mapped x.1 4 = true) →
    g.mats = [] → g.closing = none → Mem.wfD 0 s.m.mem = true → v < 65536 → Answers (.wcWriteIssue d) s fun t =>
      mread 0 t.m.mem w.addr 256 = w.bytes ∧ t.m.rdn p 2 = v ∧ (t.m.g d).stage = rest ∧
      (∀ b, b < w.addr ∨ w.addr + 256 ≤ b → b < p ∨ p + 2 ≤ b → t.byte b = s.byte b) ∧
      (∀ x, w.maxw = some x → x.1 < 0x012000000000 → s.m.mustWait (groomerId d) x.1 4 = false →
        t.m.upd = s.m.upd ++ [⟨0, x.1, x.2 % 2 ^ 32, g.ctx.getD noCtx, groomerId d, 4⟩])

/-- GROOMER_GO_WORD (R274, R282, R286): a notified word that holds the low half of the step starts phase 2 of its matrix entry, with its rule
record read unless the entry is held. -/
def Sys2Proof.Claims.GroomerGoWord : Prop :=
  ∀ (s : State) (d entry : Nat) (e : GEnt), let g := s.m.g d
    g.mats = [e] → e.entry = entry → e.phase = 3 → g.go.contains (goOf e.raw) = true → s.m.rdn (goOf e.raw) 4 = e.step % 2 ^ 32 →
    d < 4 → s.sound → s.still → mapped (goOf e.raw) 4 = true → s.m.awake d (goOf e.raw) 4 = true →
    g.win = [] → e.put < gBlocks e.raw →
    (e.held = 0 → ruleErr s.m.rdn d (gRule e.raw) (gMatrix e.raw) = 0 → s.m.awake d (gRule e.raw) 256 = true →
      Answers (.groomerGoWord d entry) s fun t => t.m.mem = s.m.mem ∧ goOf e.raw ∉ (t.m.g d).go ∧
        (t.m.g d).mats = [{ e with phase := 4, rule := s.m.rdn (gRule e.raw) 256 }]) ∧
    (e.held ≠ 0 → e.held ≠ 3 → Answers (.groomerGoWord d entry) s fun t => t.m.mem = s.m.mem ∧ goOf e.raw ∉ (t.m.g d).go ∧
        (t.m.g d).mats = [{ e with phase := 4, rule := 0 }])

/-- The verdict of a check (R286): 1 where a flag of the sum says a gradient is not finite, 2 where a norm check finds the sum of squares
above the square of the bound, else 0. SHARD_REDUCE_DONE gives an element-wise entry the totals' verdict and lets it apply, its rule record read
unless the entry is held (R274). -/
def Sys2Proof.Claims.GroomerCheckVerdict : Prop :=
  (∀ (x : Nat) (t : Epr), (t.nan = true ∨ t.pinf = true ∨ t.ninf = true → gVerdict x t = 1) ∧
    (t.nan = false → t.pinf = false → t.ninf = false → gCheck x ≠ 2 → gVerdict x t = 0) ∧
    (∀ m a, t.nan = false → t.pinf = false → t.ninf = false → gCheck x = 2 → decodeNum 3 (fld x 351 320) = .fin false m a → 0 ≤ t.w →
      ∀ b : Int, b ≤ 2 * a → b ≤ t.a →
      (gVerdict x t = 2 ↔ (m * m : Int) * 2 ^ (2 * a - b).toNat < t.w * 2 ^ (t.a - b).toNat))) ∧
  (∀ (s : State) (d entry i : Nat) (e : GEnt) (c : Coll), let g := s.m.g d
    (s.m.colls (d % 2)).findIdx? (fun c => c.space == 1 && c.by_ == d && c.entry == entry && c.fin) = some i →
    (s.m.colls (d % 2))[i]? = some c → g.mats = [e] → e.entry = entry → e.phase = 1 → gMatrix e.raw = false → g.win = [] →
    e.put < gBlocks e.raw → gCheck e.raw ≠ 0 → d < 4 → s.sound → s.still →
    let sum := Epr.ofNat 7 (leNat c.out)
    let v := gVerdict e.raw sum
    (v = 0 → ruleErr s.m.rdn d (gRule e.raw) false = 0 → s.m.awake d (gRule e.raw) 256 = true →
      Answers (.shardReduceDone d entry) s fun t => t.m.mem = s.m.mem ∧ (t.m.colls (d % 2)) = (s.m.colls (d % 2)).eraseIdx i ∧
        (t.m.g d).mats = [{ e with phase := 2, sum := sum, held := 0, rule := s.m.rdn (gRule e.raw) 256 }]) ∧
    (v ≠ 0 → Answers (.shardReduceDone d entry) s fun t => t.m.mem = s.m.mem ∧ (t.m.colls (d % 2)) = (s.m.colls (d % 2)).eraseIdx i ∧
      (t.m.g d).mats = [{ e with phase := 2, sum := sum, held := v }]))

/-- DIGEST_FLAG_OR_DONE (R289, R290): the digest is resolved, and replicas disagree exactly where the OR of D and the OR of its complement
share a bit: GRM_STATUS shows it and the step is marked. -/
def Sys2Proof.Claims.DigestResolves : Prop :=
  ∀ (s : State) (d entry i : Nat) (e : GEnt) (c : Coll), let g := s.m.g d
    d < 4 → s.m.reg.parityOk = true → g.digs = [e] → e.entry = entry → e.phase = 5 → e.entry + 1 ≠ s.m.gEntries d → g.closing = none →
    (s.m.colls (d % 2)).findIdx? (fun c => c.space == 2 && c.by_ == d && c.entry == entry && c.fin) = some i →
    (s.m.colls (d % 2))[i]? = some c → Answers (.digestFlagOrDone d entry) s fun t => (t.m.g d).digs = [] ∧ t.m.mem = s.m.mem ∧
      (t.m.colls (d % 2)) = (s.m.colls (d % 2)).eraseIdx i ∧
      (leNat (c.out.take 8) &&& leNat (c.out.drop 8) ≠ 0 → (t.m.g d).mismatch = true ∧ (t.m.rg 0x800040).testBit (4 + d) = true) ∧
      (leNat (c.out.take 8) &&& leNat (c.out.drop 8) = 0 → (t.m.g d).mismatch = g.mismatch ∧ t.m.rg 0x800040 = s.m.rg 0x800040)
/-! Ersan ports and the link layer (R297 to R305, R325). -/

/-- A port comes up (R297, R298): training ends with the partner's MID; the partner of another domain or with this module's own MID leaves
the port down with cause 5 and an event; else the port is up, or asleep beside an I/O die in DEEP, with its link state fresh. -/
def Sys2Proof.Claims.PortComesUp : Prop :=
  ∀ (s : State) (p mid dom : Nat), p < 32 → s.m.reg.parityOk = true → s.m.ld.active = true → s.m.portOn p = true → (s.m.port p).st = 1 → mid < 1024 → dom < 65536 →
    (s.m.port p).txq = [] →
    (mid = s.m.ers.mid → Answers (.portUp p mid dom) s fun t => (t.m.port p).st = 0 ∧ (t.m.port p).cause = 5 ∧ (t.m.port p).partner = mid ∧
      (t.m.rg 0x600020).testBit 2 = true) ∧
    (mid ≠ s.m.ers.mid → dom ≠ s.m.ers.domain → Answers (.portUp p mid dom) s fun t => (t.m.port p).st = 0 ∧ (t.m.port p).cause = 5 ∧
      (t.m.rg 0x600020).testBit 3 = true) ∧
    (mid ≠ s.m.ers.mid → dom = s.m.ers.domain → Answers (.portUp p mid dom) s fun t => let x := t.m.port p
      x.st = (if (s.m.die (4 + p / 16)).st = 0 then 3 else 2) ∧ x.partner = mid ∧ x.txSeq = 0 ∧ x.rxSeq = 0 ∧ x.retry = [] ∧
      x.used = [] ∧ x.owed = [] ∧ t.m.mem = s.m.mem)

/-- A port goes down (R303, R325): by loss of lane lock, by a link timeout, or when it is disabled; it is out of routing and out of service
with its cause, its flits are counted as dropped, and PORT_DOWN is shown. -/
def Sys2Proof.Claims.PortGoesDown : Prop :=
  ∀ (s : State) (p : Nat), p < 32 → s.m.reg.parityOk = true → (s.m.port p).st ≠ 0 →
    let down (cause : Nat) (t : State) : Prop := (t.m.port p).st = 0 ∧ (t.m.port p).gone = true ∧ (t.m.port p).lost = true ∧
      (t.m.port p).cause = cause ∧ (t.m.port p).retry = [] ∧ (t.m.rg 0x600020).testBit 0 = true ∧ t.m.mem = s.m.mem ∧
      min (s.m.rg 0x600308 + (s.m.port p).retry.length + (s.m.port p).txq.length) (2 ^ 32 - 1) ≤ t.m.rg 0x600308
    Answers (.laneLockLoss p) s (down 1) ∧ ((s.m.port p).st = 2 → Answers (.linkTimeout p) s (down 2)) ∧
    (s.hostFree → Answers (.portDisable p) s fun t => down 6 t ∧ t.m.portOn p = false ∧ t.m.host.ur = false)

/-- Training and restoring a port (R297, R298, R304): ENABLE and a retry put a port that is down into training, after ENABLE it counts
for routing again; a port not in service in time counts as gone; RESTORE returns a trained port to service; a sleeping port is up once its die has left DEEP. That a trained port not yet restored loses what
waits in it and goes on as it was, and that ENABLE trains at once, is the model's choice (log entry 55). -/
def Sys2Proof.Claims.PortTrainsAndRestores : Prop :=
  ∀ (s : State) (p : Nat), p < 32 → s.m.reg.parityOk = true →
    ((s.m.port p).st = 0 → s.hostFree → Answers (.portEnable p) s fun t =>
      (t.m.port p).st = 1 ∧ (t.m.port p).lost = false ∧ (t.m.port p).gone = (s.m.port p).gone ∧ t.m.portOn p = true ∧ t.m.mem = s.m.mem) ∧
    ((s.m.port p).st = 0 → s.m.ld.active = true → s.m.portOn p = true →
      exec (.portRetrain p) s = .next { s with m := s.m.pput p { s.m.port p with st := 1 } }) ∧
    ((s.m.port p).st ≤ 1 ∨ (s.m.port p).gone = true → s.m.ld.active = true → Answers (.portUpTimeout p) s fun t =>
      (t.m.port p).gone = true ∧ (t.m.port p).lost = true ∧ (t.m.port p).st = (s.m.port p).st ∧ (t.m.port p).txq = [] ∧ t.m.mem = s.m.mem) ∧
    ((s.m.port p).gone = true → (s.m.port p).st = 2 ∨ (s.m.port p).st = 3 → (s.m.port p).txq = [] → s.hostFree →
      Answers (.portRestore p) s fun t => t.m.port p = { s.m.port p with gone := false, lost := false } ∧ t.m.mem = s.m.mem ∧ t.m.ers.spread = s.m.ers.spread) ∧
    ((s.m.port p).st = 3 → (s.m.die (4 + p / 16)).st ≠ 0 → (s.m.port p).txq = [] → Answers (.linkWakeDone p) s fun t =>
      t.m.port p = { s.m.port p with st := 2 } ∧ t.m.mem = s.m.mem)

/-- SLOT_MOVE_DONE (R304): once no flit of the slot waits on its old port, nor for a die on its way there, the slot is at its own port and the move is
over. -/
def Sys2Proof.Claims.SlotMoves : Prop :=
  ∀ (s : State) (mid slot p : Nat), mid < 1024 → slot < 16 → s.m.reg.parityOk = true → tget? s.m.ers.moving (16 * mid + slot) = some p → (s.m.slots mid).length = 16 →
    (∀ q ∈ (s.m.port (nth 0 (s.m.slots mid) slot)).txq, q.2.dst = mid → slotOf q.2 ≠ slot) →
    (∀ x ∈ s.m.ers.crossing, x.2.2.dst = mid → slotOf x.2.2 ≠ slot) →
    Answers (.slotMoveDone mid slot) s fun t => nth 0 (t.m.slots mid) slot = p ∧ tget? t.m.ers.moving (16 * mid + slot) = none ∧
      (∀ k, k < 16 → k ≠ slot → nth 0 (t.m.slots mid) k = nth 0 (s.m.slots mid) k) ∧ t.m.mem = s.m.mem

/-- The link layer (R299 to R301): a good IDLE or RETRY frees the acknowledged flits and returns credits, and the symbols that FEC corrected
are counted; RETRY counts one more sending of the rest; a flit whose CRC fails is discarded, opens a gap and is answered by a RETRY; an IDLE
leaves with LACK and owed credits, at most 31 of one lane. That an IDLE or RETRY gives its LACK and credits while a gap is open too is the
model's choice (log entry 86). -/
def Sys2Proof.Claims.LinkLayer : Prop :=
  ∀ (s : State) (p : Nat) (f : Flit), p < 32 → s.m.reg.parityOk = true → s.m.mon.fltState = 0 → s.m.ld.phase ≠ 7 → (s.m.port p).st = 2 →
    (s.m.port p).txq = [] →
    let x := s.m.port p
    let acked : Nat := match x.retry with
      | [] => 0
      | o :: _ => if (f.lack + 4097 - o.lseq) % 4096 ≤ x.retry.length then (f.lack + 4097 - o.lseq) % 4096 else 0
    (f.typ = 0 → Answers (.flitIdle p f) s fun t => t.m.mem = s.m.mem ∧ t.m.port p = { x with
      retry := x.retry.drop acked, resent := x.resent.drop acked,
      used := tset x.used f.creditVl (tget 0 x.used f.creditVl - f.credits) } ∧
      (0 < f.fec → t.m.rg 0x600300 = min (s.m.rg 0x600300 + f.fec) (2 ^ 32 - 1))) ∧
    (f.typ = 1 → (∀ k ∈ x.resent, k + 1 < 16) → Answers (.flitRetry p f) s fun t => t.m.mem = s.m.mem ∧
      (t.m.port p).retry = x.retry.drop acked ∧ (t.m.port p).resent = (x.resent.drop acked).map (· + 1) ∧ (t.m.port p).st = 2 ∧
      t.m.rg 0x600304 = min (s.m.rg 0x600304 + (x.retry.drop acked).length) (2 ^ 32 - 1)) ∧
    (f.typ = 1 → (∃ k ∈ x.resent.drop acked, 16 ≤ k + 1) → Answers (.flitRetry p f) s fun t =>
      (t.m.port p).st = 0 ∧ (t.m.port p).cause = 3) ∧
    (Answers (.badCrc p) s fun t => (t.m.port p).gap = true ∧ (t.m.port p).rxSeq = x.rxSeq ∧ (t.m.port p).retry = x.retry ∧ t.m.mem = s.m.mem ∧
      ∃ g, (t.m.port p).ctl = some g ∧ g.typ = 1 ∧ g.lack = (x.rxSeq + 4095) % 4096) ∧
    (∀ l, l < 8 → (∀ j, j < l → tget 0 x.owed j = 0) → 0 < tget 0 x.owed l →
      Answers (.idleTimer p) s fun t => t.m.mem = s.m.mem ∧ (t.m.port p).owed = tset x.owed l (tget 0 x.owed l - min 31 (tget 0 x.owed l)) ∧
        (t.m.port p).retry = x.retry ∧ ∃ g, (t.m.port p).ctl = some g ∧ g.typ = 0 ∧ g.lack = (x.rxSeq + 4095) % 4096 ∧ g.creditVl = l ∧
          g.credits = min 31 (tget 0 x.owed l))

/-- A flit for another module (R21, R302, R305): with hops left it goes on with one hop fewer on the port of its slot, or waits for a die in
DEEP on its way to that port; with none it is dropped, counted, and HOPS_EXPIRED is shown. -/
def Sys2Proof.Claims.FlitsAreForwarded : Prop :=
  ∀ (s : State) (p : Nat) (f : Flit), p < 32 → s.m.reg.parityOk = true → s.m.mon.fltState = 0 → s.m.ld.phase ≠ 7 →
    (s.m.port p).st = 2 → f.typ = 0x21 → f.lseq = (s.m.port p).rxSeq →
    f.dst ≠ s.m.ers.mid → (s.m.port p).txq = [] →
    (2 ≤ f.hops → s.routed f.dst → (∃ d ∈ wayDies (4 + p / 16) (nth 0 (s.m.slots f.dst) (slotOf f)) f, s.m.sleeps d = true) →
      Answers (.flitAlive p f) s fun t => t.m.mem = s.m.mem ∧ ∃ g, t.m.ers.crossing = s.m.ers.crossing ++ [(4 + p / 16, some p, g)] ∧
        g.hops + 1 = f.hops ∧ g.dst = f.dst ∧ g.src = f.src) ∧
    (2 ≤ f.hops → s.routed f.dst → s.wayClear (4 + p / 16) f.vl (nth 0 (s.m.slots f.dst) (slotOf f)) → Answers (.flitAlive p f) s fun t => t.m.mem = s.m.mem ∧
      t.queued (nth 0 (s.m.slots f.dst) (slotOf f)) (fun g => g.typ = 0x21 ∧ g.dst = f.dst ∧ g.src = f.src ∧ g.hops + 1 = f.hops ∧
        g.payload = f.payload ∧ g.keyA = f.keyA ∧ g.keyB = f.keyB ∧ g.keyC = f.keyC)) ∧
    (f.hops ≤ 1 → Answers (.flitAlive p f) s fun t => t.m.mem = s.m.mem ∧ (t.m.rg 0x600020).testBit 6 = true ∧
      t.m.rg 0x600308 = min (s.m.rg 0x600308 + 1) (2 ^ 32 - 1))

/-! Windows and remote accesses (R306 to R312, R325, R326). -/

/-- A read request (R309): refused by the first reason of Table 12.16, counted, and answered by NACK with it; else answered with the window's
bytes, and no byte changes. -/
def Sys2Proof.Claims.WindowRead : Prop :=
  ∀ (s : State) (p : Nat) (f : Flit), s.hearsFlit p 0x10 f → s.m.reg.parityOk = true → s.routed f.src → f.src ≠ s.m.ers.mid →
    let r : RxReq := ⟨f.src, f.txn, 0, f.keyA % 4096, f.keyB % 2 ^ 25, f.keyC % 8192, 4 + p / 16, [], 0⟩
    let a := fld (s.m.winRaw r.win) 47 0 + 32 * r.off
    ∀ slot, (∀ g : Flit, g.typ = 0x11 ∨ g.typ = 0x15 → g.dst = f.src → g.keyA = r.win → g.keyB = r.off → slotOf g = slot) →
    s.wayClear (4 + p / 16) 2 (nth 0 (s.m.slots f.src) slot) →
    (s.m.denial r ≠ 0 → Answers (.flitReadReq p f) s fun t => t.m.mem = s.m.mem ∧ (t.m.port p).rxSeq = (f.lseq + 1) % 4096 ∧
      t.m.rg 0x60030C = min (s.m.rg 0x60030C + 1) (2 ^ 32 - 1) ∧
      t.queued (nth 0 (s.m.slots f.src) slot) (fun g => g.typ = 0x15 ∧ g.txn = f.txn ∧ g.keyC = s.m.denial r)) ∧
    (s.m.denial r = 0 → mapped a r.len = true → s.m.awake (4 + p / 16) a r.len = true → s.sound → s.still → 0 < r.len → r.len ≤ 224 →
      Answers (.flitReadReq p f) s fun t => t.m.mem = s.m.mem ∧ (t.m.port p).rxSeq = (f.lseq + 1) % 4096 ∧
        t.queued (nth 0 (s.m.slots f.src) slot) (fun g => g.typ = 0x11 ∧ g.txn = f.txn ∧ g.last = true ∧ g.payload = mread 0 s.m.mem a r.len))

/-- A one-flit write or exact-accumulate (R309, R310): accepted into HBM or LPDDR-5X, it changes the window's bytes at its offset, by the data
or by the exact sum of the record there and the record sent, and no others, and ACK answers it; into a line of scratchpad it waits at the
memory tile, as an access of the receive engine (R147), with its ACK. -/
def Sys2Proof.Claims.WindowWrites : Prop :=
  ∀ (s : State) (p k : Nat) (f : Flit), k = 1 ∨ k = 2 → s.hearsFlit p (if k = 1 then 0x12 else 0x13) f → f.last = true → f.payload ≠ [] →
    s.routed f.src → f.src ≠ s.m.ers.mid → s.m.ers.acks = [] → s.sound → s.still →
    (∀ r ∈ s.m.ers.rx, ¬ (r.src = f.src ∧ r.txn = f.txn ∧ r.kind = k)) →
    let r : RxReq := ⟨f.src, f.txn, k, f.keyA % 4096, f.keyB % 2 ^ 25, f.payload.length, 4 + p / 16, f.payload, 0⟩
    let w := s.m.winRaw r.win
    let a := fld w 47 0 + 32 * r.off
    let n := f.payload.length
    s.m.denial r = 0 → mapped a n = true → s.m.awake (4 + p / 16) a n = true → Mem.wfD 0 s.m.mem = true →
    ∀ slot, (∀ g : Flit, g.typ = 0x14 → g.dst = f.src → g.keyA = r.win → g.keyB = r.off → slotOf g = slot) →
    s.wayClear (4 + p / 16) 2 (nth 0 (s.m.slots f.src) slot) →
    let acked (t : State) : Prop := t.queued (nth 0 (s.m.slots f.src) slot) fun g => g.typ = 0x14 ∧ g.txn = f.txn
    (k = 1 → a + n ≤ spBase → Answers (.flitWrite p f) s fun t => mread 0 t.m.mem a n = f.payload ∧ acked t ∧
      (∀ b, b < a ∨ a + n ≤ b → t.byte b = s.byte b)) ∧
    (k = 2 → fld w 79 76 = 6 → n = 32 → a + 32 ≤ spBase → Answers (.flitXacc p f) s fun t => acked t ∧
      t.m.rdn a 32 = ((Epr.ofNat 6 (s.m.rdn a 32)).add (Epr.ofNat 6 (leNat f.payload))).toNat 6 ∧
      (∀ b, b < a ∨ a + 32 ≤ b → t.byte b = s.byte b)) ∧
    (k = 1 → ∀ mt, targetOf a = .sp mt → a % 64 + n ≤ 64 → Answers (.flitWrite p f) s fun t => t.m.mem = s.m.mem ∧ t.m.ers.acks.length = 1 ∧
      ∃ q, (t.m.t (mtTile mt)).reqs = [q] ∧ q.addr = a ∧ q.bytes = f.payload ∧ q.own = 1 + p / 16 ∧ q.ten = 64)

/-- Replies to this module's accesses (R202, R306, R309, R312, R217): data of a whole read stands at its destination, in HBM or LPDDR-5X; an
acknowledged write, a refused access and one that timed out are over, the last two aborting their command with the reason. A read that ended
no longer holds its descriptor; writes never hold theirs. -/
def Obligations.RemoteReplies : Prop :=
  ∀ (s : State) (p : Nat) (f : Flit) (x : Txn) (d : Desc) (r : Run), s.sound → s.m.txnOf f = some x → x.id = f.txn →
    s.m.ers.txns.find? (fun y => y.id == f.txn) = some x → (s.m.e x.core x.q).buf.find? (fun d => d.seq == x.seq) = some d → s.m.run? x.ctx = some r → r.outcome = 0 → x.id = f.txn →
    let ended (t : State) : Prop := (∀ y ∈ t.m.ers.txns, y.id ≠ x.id) ∧ ∃ d' ∈ (t.m.e x.core x.q).buf, d'.seq = d.seq ∧ d'.rem = (if x.kind = 0 then d.rem - 1 else d.rem)
    (s.hearsFlit p 0x11 f → x.kind = 0 → x.got + f.payload.length = x.len → x.data.length = x.got → tSm d.raw = 3 → tDm d.raw = 0 → tConv d.raw = false →
      d.dst = [(tDst d.raw, tLen d.raw)] → x.off + x.len ≤ tLen d.raw → tDst d.raw + tLen d.raw ≤ 0x012000000000 → x.core < 1024 →
      s.m.mustWait x.core (tDst d.raw + x.off) x.len = false → s.m.upd = [] → Mem.wfD 0 s.m.mem = true → 0 < x.len →
      Answers (.flitReadResp p f) s fun t => ended t ∧ mread 0 t.m.mem (tDst d.raw + x.off) x.len = x.data ++ f.payload ∧
        (∀ b, b < tDst d.raw + x.off ∨ tDst d.raw + x.off + x.len ≤ b → t.byte b = s.byte b)) ∧
    (s.hearsFlit p 0x14 f → x.kind ≠ 0 → Answers (.flitAck p f) s fun t => ended t ∧ t.m.mem = s.m.mem ∧ t.m.safe.events = s.m.safe.events) ∧
    (s.hearsFlit p 0x15 f → Answers (.flitNack p f) s fun t => ended t ∧ t.m.mem = s.m.mem ∧
      t.m.safe.events = s.m.safe.events ++ [⟨x.ctx, 0x0810, f.keyC % 65536 + fld x.addr 47 16 * 65536⟩]) ∧
    (x.addr < 2 ^ 48 → Answers (.remoteAccessTimeout f.txn) s fun t => ended t ∧ t.m.mem = s.m.mem ∧
      t.m.safe.events = s.m.safe.events ++ [⟨x.ctx, 0x080F, x.addr + x.core * 2 ^ 48⟩])

/-- FAULT (R325, R326): the sender and its code are recorded, the port goes down with cause 4, and both events are shown. -/
def Sys2Proof.Claims.PartnerFault : Prop :=
  ∀ (s : State) (p : Nat) (f : Flit), s.hearsFlit p 0x30 f → s.m.reg.parityOk = true → Answers (.flitFault p f) s fun t =>
    t.m.ers.faultMid = f.src ∧ t.m.ers.faultCode = f.keyC % 65536 ∧ (t.m.port p).st = 0 ∧ (t.m.port p).cause = 4 ∧
    (t.m.rg 0x600020).testBit 1 = true ∧ (t.m.rg 0x600020).testBit 0 = true ∧ t.m.mem = s.m.mem

/-- Window and route commands (R303, R311, R329): READ shows the selected entry in the data registers, WRITE stores a well-formed one, a
route's with its spread table built anew and its primary ports that train or are about to counted as up again, and rejects another with CMD_REJECT, CLOSE clears OPEN; the host's write ends without an error. A
lease that runs out revokes its window. -/
def Obligations.WindowAndRouteCommands : Prop :=
  ∀ (s : State), s.hostFree → s.m.reg.parityOk = true →
    let k := s.m.rg 0x600200 % 4096
    let m := s.m.rg 0x600240 % 1024
    let w := s.m.winRaw k
    let r := s.m.routeRaw m
    let wd := s.m.dataRegs 0x600204 8
    let rd := s.m.dataRegs 0x600244 4
    let quiet (t : State) : Prop := t.m.mem = s.m.mem ∧ t.m.host.ur = false
    (w < 2 ^ 256 → Answers .winCmdRead s fun t => t.m.dataRegs 0x600204 8 = w ∧ t.m.ers = s.m.ers ∧ quiet t) ∧
    (winBad wd = false → Answers .winCmdWrite s fun t => t.m.ers = { s.m.ers with win := tset s.m.ers.win k wd } ∧ quiet t) ∧
    (winBad wd = true → Answers .winCmdWrite s fun t => t.m.ers = s.m.ers ∧ (t.m.rg 0x600020).testBit 7 = true ∧ quiet t) ∧
    (bitAt w 128 = true → Answers .winCmdClose s fun t => bitAt (t.m.winRaw k) 128 = false ∧
      fld (t.m.winRaw k) 127 0 = fld w 127 0 ∧ quiet t) ∧
    (r < 2 ^ 128 → Answers .routeCmdRead s fun t => t.m.dataRegs 0x600244 4 = r ∧ t.m.ers = s.m.ers ∧ quiet t) ∧
    (routeBad rd = false → s.m.ers.moving = [] → Answers .routeCmdWrite s fun t => quiet t ∧ t.m.ers.moving = [] ∧
      t.m.ers.route = tset s.m.ers.route m rd ∧ t.m.ers.spread = tdel s.m.ers.spread m ∧
      (∀ p ∈ primaries rd, (s.m.port p).st = 1 ∨ ((s.m.port p).st = 0 ∧ s.m.portOn p = true) → t.m.live p = true)) ∧
    (routeBad rd = true → Answers .routeCmdWrite s fun t => t.m.ers = s.m.ers ∧ (t.m.rg 0x600020).testBit 7 = true ∧ quiet t) ∧
    (∀ k, bitAt (s.m.winRaw k) 128 = true → fld (s.m.winRaw k) 127 96 ≠ 0 → Answers (.windowLeaseExpire k) s fun t =>
      bitAt (t.m.winRaw k) 128 = false ∧ (t.m.rg 0x600020).testBit 4 = true ∧ t.m.mem = s.m.mem)

/-! Collectives (R314 to R324). -/

/-- A doorbell notice (R314): with nothing new the notice is only gone; more than 64 descriptors stop the area and abort with POST_FAULT;
else each descriptor is taken and counted in TAKEN. A descriptor of an absent group is reported with COLL_GROUP and posts nothing (R319). The
ways of the engine are awake and the command may read the post area. -/
def Obligations.PostedDescriptors : Prop :=
  ∀ (s : State) (n x c : Nat) (r : Run), n < 64 → x < 2 → (64 * x + n) ∈ s.m.ers.notice → (s.m.die (n / 16)).ctx = some c →
    s.m.ld.started = true → (64 * x + n) ∉ s.m.ers.stopped → s.m.run? c = some r → r.outcome = 0 → s.sound → s.still →
    (∀ d, d < 6 → s.m.sleeps d = false) → (∀ mt, mt < 288 → s.m.tenOk mt (tenOf c) = true) → s.m.ers.postOff + 0x4000 ≤ 0x400000 →
    let k := 64 * x + n
    let bell := s.m.bell n x
    let p := s.m.rdn bell 4
    let taken := tget 0 s.m.ers.taken k
    let diff := (p + 2 ^ 32 - taken) % 2 ^ 32
    let raw := s.m.rdn (bell - 0x1000 + 64 * (taken % 64)) 64
    (diff = 0 → Answers (.postedNotify n x) s fun t => t.m.mem = s.m.mem ∧ t.m.msgs = s.m.msgs ∧
      t.m.ers = { s.m.ers with notice := s.m.ers.notice.filter (fun j => j != k) }) ∧
    (64 < diff → Answers (.postedNotify n x) s fun t => k ∈ t.m.ers.stopped ∧ t.m.mem = s.m.mem ∧ t.m.ers.coll = s.m.ers.coll ∧
      t.m.safe.events = s.m.safe.events ++ [⟨c, 0x0811, p + n * 2 ^ 48 + x * 2 ^ 56⟩]) ∧
    (0 < diff → diff ≤ 64 → Answers (.postedNotify n x) s fun t => tget 0 t.m.ers.taken k = p) ∧
    (diff = 1 → tget? s.m.ers.group (cGroup raw) = none → collBad raw 1024 = false → cChan raw ≠ 0xFFFF →
      Answers (.postedNotify n x) s fun t => t.m.ers.coll = s.m.ers.coll ∧ t.m.isDead (cGroup raw) 0 (cTag raw) = true ∧
        t.m.msgs = s.m.msgs ++ [⟨c, cChan raw, collMsg raw 0x0B04 s.m.ers.mid, scTile n, 2⟩])

/-- Control flits of collectives (R319 to R321): a READY that matches nothing here is kept; an ALIVE changes nothing but the link; an ABANDON
of a key not posted here marks it, with its status and MID for a later post, and drops its kept READYs. A READY for a key abandoned here changes nothing but the link. -/
def Sys2Proof.Claims.CollectiveControlFlits : Prop :=
  ∀ (s : State) (p : Nat) (f : Flit), s.m.reg.parityOk = true →
    let k : Ready := ⟨p / 16, f.keyA, fld f.keyC 13 12, f.keyB, f.src, fld f.keyC 7 0, fld f.keyC 11 8, leNat (f.payload.take 5)⟩
    let sp := fld f.keyC 27 26
    let link (t : State) : Prop := t.m.mem = s.m.mem ∧ t.m.ers.coll = s.m.ers.coll ∧ (t.m.port p).rxSeq = (f.lseq + 1) % 4096
    (s.hearsFlit p 0x20 f → s.m.findColl k.group k.space k.tag = none →
      s.m.isDead k.group k.space k.tag = false →
      s.m.ers.ready.all (fun r => !(r.group == k.group && r.space == k.space && r.tag == k.tag && r.src == k.src)) = true →
      (s.m.ers.ready.filter (fun r => r.eng == p / 16)).length < 4096 →
      Answers (.flitReady p f) s fun t => link t ∧ t.m.ers.ready = s.m.ers.ready ++ [k]) ∧
    (s.hearsFlit p 0x20 f → s.m.findColl k.group k.space k.tag = none → s.m.isDead k.group k.space k.tag = true →
      Answers (.flitReady p f) s fun t => link t ∧ t.m.ers.ready = s.m.ers.ready ∧ t.m.ers.dead = s.m.ers.dead) ∧
    (s.hearsFlit p 0x21 f → Answers (.flitAlive p f) s fun t => link t ∧ t.m.ers.ready = s.m.ers.ready ∧ t.m.ers.dead = s.m.ers.dead) ∧
    (s.hearsFlit p 0x22 f → s.m.findColl f.keyA sp f.keyB = none → s.m.isDead f.keyA sp f.keyB = false →
      Answers (.flitAbandon p f) s fun t => link t ∧ t.m.ers.dead = ⟨f.keyA, sp, f.keyB, false, fld f.keyC 15 0, fld f.keyC 25 16⟩ :: s.m.ers.dead ∧
        t.m.ers.ready = s.m.ers.ready.filter (fun r => !(r.group == f.keyA && r.space == sp && r.tag == f.keyB)))

/-- Data of a collective (R317, R321): for a key abandoned here it is discarded and counted; for one that awaits it and is not yet whole it is
kept at its position, and no byte of memory changes. -/
def Sys2Proof.Claims.CollectiveData : Prop :=
  ∀ (s : State) (p : Nat) (f : Flit), s.hearsFlit p 0x23 f → s.m.reg.parityOk = true →
    (s.m.ers.coll = [] → s.m.isDead f.keyA 0 f.keyB = true → Answers (.flitCollData p f) s fun t => t.m.mem = s.m.mem ∧
      t.m.rg 0x600310 = min (s.m.rg 0x600310 + 1) (2 ^ 32 - 1) ∧ t.m.ers.coll = s.m.ers.coll) ∧
    (∀ c : Coll, s.m.ers.coll = [(0, [c])] → s.m.awaits f = some (0, 0) → c.space = 0 → cKind c.raw = 0 → c.feed = [] → c.heard = [] → c.fin = false → s.m.sleeps 4 = false →
      let c1 : Coll := { c with rx := tset c.rx f.src (tset (tget [] c.rx f.src) (f.keyC % 2 ^ 48) f.payload) }
      cResult c.raw (s.m.algOf (cGroup c.raw)) (s.m.members (cGroup c.raw)).length (s.m.rankIn (cGroup c.raw)) c.inp (s.m.recvOf c1) = none →
      Answers (.flitCollData p f) s fun t => t.m.mem = s.m.mem ∧ t.m.ers.coll = [(0, [c1])])

/-- Timers and the end of a collective (R320, R321, R323, R324): when nothing came from an awaited member the key is abandoned with
COLL_ABANDONED and its message names the member; an ALIVE interval only sends; a collective whose outputs are complete and whose data has
left and is acknowledged leaves with status 0, and one of KIND 2 releases its commit's hold. -/
def Obligations.CollectiveTimersAndEnd : Prop :=
  ∀ (s : State) (x : Nat) (c : Coll), s.m.ers.coll = [(x, [c])] → x < 2 → c.space = 0 → s.m.reg.parityOk = true →
    let g := cGroup c.raw
    let ms := s.m.members g
    let i := s.m.rankIn g
    let msg (status cause : Nat) : List Msg :=
      if cChan c.raw = 0xFFFF then [] else [⟨c.ctx, cChan c.raw, collMsg c.raw status cause, scTile c.by_, 2⟩]
    (∀ rank, cOp c.raw = 5 → c.fin = false → cKind c.raw = 0 →
      (inPlan c.raw (s.m.algOf g) ms.length i).any (fun p => p.1 == rank && decide ((c.got (nth 0 ms rank)).length < p.2)) = true →
      Answers (.collectiveTimeout x 0 rank) s fun t => t.m.colls x = [] ∧ t.m.isDead g 0 (cTag c.raw) = true ∧
        t.m.msgs = s.m.msgs ++ msg 0x0B01 (nth 0 ms rank) ∧ t.m.mem = s.m.mem) ∧
    (Answers (.aliveInterval x) s fun t => t.m.ers.coll = s.m.ers.coll ∧ t.m.ers.ready = s.m.ers.ready ∧ t.m.mem = s.m.mem ∧
      t.m.safe = s.m.safe) ∧
    (c.fin = true → c.feed = [] → s.still → s.m.unsent c.raw = false → (outPlan c.raw (s.m.algOf g) ms.length i).all (fun p => decide (p.2 ≤ tget 0 c.sent (nth 0 ms p.1))) = true →
      cKind c.raw ≠ 2 → Answers (.collectiveComplete x 0) s fun t => t.m.colls x = [] ∧ t.m.msgs = s.m.msgs ++ msg 0 0 ∧ t.m.mem = s.m.mem) ∧
    (c.fin = true → c.feed = [] → s.still → s.m.unsent c.raw = false → (outPlan c.raw (s.m.algOf g) ms.length i).all (fun p => decide (p.2 ≤ tget 0 c.sent (nth 0 ms p.1))) = true →
      ∀ reg, cKind c.raw = 2 → s.m.icp.pend = [(reg, fld c.raw 459 428)] → tget false s.m.icp.hold reg = true →
        Answers (.collectiveComplete x 0) s fun t => t.m.colls x = [] ∧ t.m.msgs = s.m.msgs ++ msg 0 0 ∧ t.m.mem = s.m.mem ∧
          tget false t.m.icp.hold reg = false ∧ ∀ i, i ∈ allTiles → inRegion (nth 0 s.m.img.regions reg) i = true →
            (t.m.t i).commit = some { c := fld c.raw 459 428 })

/-! Power states of the dies (R18 to R21). -/

/-- Idle timers (R19): a die that stands in RUN with the three conditions goes for NAP unless SAFE_SLEEP_CTRL holds it, one in NAP for DEEP
unless held or an open window targets its scratchpad; without the conditions, or held, nothing changes. -/
def Sys2Proof.Claims.IdleTimers : Prop :=
  ∀ (s : State) (d : Nat), d < 6 → s.m.reg.parityOk = true →
    ((s.m.die d).rests 2 = true → s.m.idle d = true → s.m.floorOf d < 2 →
      exec (.idleNapExpire d) s = .next { s with m := s.m.dput d { s.m.die d with entering := some 1 } }) ∧
    ((s.m.die d).rests 1 = true → s.m.idle d = true → s.m.floorOf d = 0 → s.m.winOnSp d = false →
      exec (.idleDeepExpire d) s = .next { s with m := s.m.dput d { s.m.die d with entering := some 0 } }) ∧
    (s.m.idle d = false ∨ s.m.floorOf d = 2 → exec (.idleNapExpire d) s = .next s) ∧
    (s.m.idle d = false ∨ s.m.floorOf d ≠ 0 → exec (.idleDeepExpire d) s = .next s) ∧
    (s.m.winOnSp d = true → exec (.idleDeepExpire d) s = .next s)

/-- Entries end (R20, Table 1.9): in NAP a compute die's memory tiles gate and memory stays; in DEEP a compute die loses its scratchpad
and its queues and keeps everything outside it, an I/O die's links sleep and its collective engine has lost what it held; with flits waiting at
its ports it is asked to wake. -/
def Sys2Proof.Claims.PowerEntriesEnd : Prop :=
  ∀ (s : State) (d : Nat), d < 6 → s.m.dies.length = 6 → (s.m.die d).held = none →
    let lo := mtBase (72 * d)
    ((s.m.die d).entering = some 1 → Answers (.napEntryDone d) s fun t => (t.m.die d) = { s.m.die d with st := 1, entering := none } ∧
      t.m.mem = s.m.mem ∧ (d < 4 → ∀ j, j < 72 → (t.m.t (mtTile (72 * d + j))).gated = true ∨
        (s.m.t (mtTile (72 * d + j))).reservesAny = true)) ∧
    ((s.m.die d).entering = some 0 → d < 4 → Mem.wfD 0 s.m.mem = true → Answers (.deepEntryDone d) s fun t =>
      (t.m.die d) = { s.m.die d with st := 0, entering := none } ∧
      (∀ a, lo ≤ a → a < lo + 72 * 0x400000 → t.byte a = 0) ∧ (∀ a, a < lo ∨ lo + 72 * 0x400000 ≤ a → t.byte a = s.byte a) ∧
      (∀ i, tDie i = d → (t.m.t i).queues = [])) ∧
    ((s.m.die d).entering = some 0 → 4 ≤ d → Answers (.deepEntryDone d) s fun t =>
      (t.m.die d).st = 0 ∧ (t.m.die d).entering = none ∧ t.m.mem = s.m.mem ∧
      ((∀ q ∈ s.m.ers.port, 4 + q.1 / 16 = d → q.2.txq = []) → (t.m.die d).waking = (s.m.die d).waking) ∧
      ((∃ q ∈ s.m.ers.port, 4 + q.1 / 16 = d ∧ q.2.txq ≠ []) → (t.m.die d).waking ≠ none) ∧
      t.m.colls (d - 4) = (s.m.colls (d - 4)).filter (fun c => c.idle) ∧ (∀ p, 4 + p / 16 = d → (s.m.port p).st = 2 → (t.m.port p).st = 3))

/-- A die leaves DEEP with nothing waiting for it (R20, R139): it stands in NAP, goes on to RUN if that was asked, and a compute die's scratchpad reads zero. -/
def Sys2Proof.Claims.DieLeavesDeep : Prop :=
  ∀ (s : State) (d k : Nat), d < 6 → s.m.dies.length = 6 → (s.m.die d).st = 0 → (s.m.die d).waking = some k → s.m.sleepers = [] →
    s.m.far = [] → s.m.ers.asleep = [] → s.m.ers.acks = [] → s.m.ers.crossing = [] → s.m.ers.coll = [] → (∀ c r, s.m.run? c = some r → r.phase ≠ 3) → Mem.wfD 0 s.m.mem = true →
    let lo := mtBase (72 * d)
    Answers (.wakeToNapDone d) s fun t => (t.m.die d).st = 1 ∧ (t.m.die d).waking = (if 2 ≤ k then some 2 else none) ∧
      (d < 4 → ∀ a, lo ≤ a → a < lo + 72 * 0x400000 → t.byte a = 0) ∧
      (∀ a, 4 ≤ d ∨ a < lo ∨ lo + 72 * 0x400000 ≤ a → t.byte a = s.byte a) ∧ t.m.safe = s.m.safe

/-- A command's dies reach RUN (R20, R122, R139): its S-cores start at ENTRY with its arguments, and the working tiles of a die last used by
another tenancy read zero. With no command waking, dies raised to RUN by SAFE_SLEEP_CTRL reach it, which is the model's
choice (log entry 32). -/
def Obligations.CommandStarts : Prop :=
  ∀ (s : State) (c : Nat), s.m.dies.length = 6 → s.m.reg.parityOk = true →
    (∀ r : Run, s.m.run? c = some r → r.phase = 0 → r.raised = true →
      (crDieList r.cr).all (fun d => ((s.m.die d).st == 1 && (s.m.die d).waking == some 2) || ((s.m.die d).st == 2 && (s.m.die d).entering.isNone)) = true →
      Answers (.wakeToRunDone c) s fun t => t.m.run? c = some { r with phase := 1, launched := true, tLaunch := s.m.time } ∧
        (∀ d, d ∈ crDieList r.cr → (t.m.die d).st = 2 ∧ (t.m.g d).ctx = some c) ∧
        (∀ n, n ∈ crScList r.cr → t.m.s n = { running := true, ctx := c, pc := crEntry r.cr, args := crArgs r.cr, ap0 := mtBase (72 * (n / 16)),
                                              ap1 := (n / 16) * 0x004800000000, launch := s.m.time,
                                              timeHi := s.m.time / 2 ^ 32 % 2 ^ 32 }) ∧
        (∀ n, n ∉ crScList r.cr → t.m.s n = s.m.s n) ∧
        (∀ d k j a, d ∈ crDieList r.cr → (s.m.die d).tenancy = some k → k ≠ r.tenancy → j < 72 → s.m.resident (72 * d + j) = false →
          mtBase (72 * d + j) ≤ a → a < mtBase (72 * d + j) + 0x400000 → t.byte a = 0)) ∧
    (s.m.run? c = none → Answers (.wakeToRunDone c) s fun t => t.m.mem = s.m.mem ∧ ∀ d, d < 6 → (s.m.die d).ctx = none →
      (s.m.die d).st = 1 → (s.m.die d).waking = some 2 → (t.m.die d).st = 2 ∧ (t.m.die d).waking = none)

/-! The safelight (R22 to R25, R244 to R257). -/

/-- SAFELIGHT_POLL (R22, R24): with at most 64 bits set, every one is taken: its bit is cleared here and in HBM and its entry's read starts;
with more, 64 are taken; a module that has not started polls nothing. -/
def Sys2Proof.Claims.SafelightPoll : Prop :=
  ∀ (s : State), s.m.reg.parityOk = true →
    (s.m.ld.started = true → s.m.mon.fltState = 0 → s.m.pw.warm = none → s.m.safe.mirror ≠ [] → s.m.safe.mirror.length ≤ 64 →
      s.m.safeReach s.m.img.ctxTable = true → Mem.wfD 0 s.m.mem = true →
      Answers .safelightPoll s fun t => t.m.safe.mirror = [] ∧ t.m.safe.lastTaken ∈ s.m.safe.mirror ∧
        (∀ c, c ∈ s.m.safe.mirror → c ∈ t.m.safe.reads ∧ t.byte (s.m.img.bitmap + c / 8) = 0) ∧
        (∀ a, (∀ c, c ∈ s.m.safe.mirror → a ≠ s.m.img.bitmap + c / 8) → t.byte a = s.byte a)) ∧
    (s.m.ld.started = true → s.m.mon.fltState = 0 → s.m.pw.warm = none → s.m.safe.mirror.Nodup → 64 < s.m.safe.mirror.length →
      Answers .safelightPoll s fun t => t.m.safe.mirror.length + 64 = s.m.safe.mirror.length ∧
        ∀ c, c ∈ t.m.safe.mirror → c ∈ s.m.safe.mirror) ∧
    (s.m.ld.started = false → exec .safelightPoll s = .next s)

/-- CONTEXT_ENTRY_READ (R245, R246): a READY entry with commands makes its context ready and the read of the next record starts; an entry
that breaks R245 is set to ERROR with its code and reported; a FREE entry clears the context. -/
def Sys2Proof.Claims.ContextEntryRead : Prop :=
  ∀ (s : State) (c : Nat), c < 65536 → c ∈ s.m.safe.reads → s.m.awake 4 (s.m.ctxAddr c) 64 = true → s.sound → s.still →
    mapped (s.m.ctxAddr c) 64 = true → (∃ k ∈ s.m.safe.recs, k ≠ c) → Mem.wfD 0 s.m.mem = true →
    let e := s.m.rdn (s.m.ctxAddr c) 64
    let x := s.m.cx c
    (fld e 7 0 = 1 → bitAt e 96 = false → entryLowBad e = false → entryHighBad e = false → c ∉ s.m.safe.lru → x.run = none → x.next = none →
      x.ready = false → fld e 63 32 ≠ fld e 223 192 → (fld e 63 32 + 2 ^ 32 - fld e 223 192) % 2 ^ 32 ≤ 2 ^ fld e 31 24 →
      (s.m.safe.ctx.filter (fun p => p.2.ready)).length < 4096 →
      Answers (.contextEntryRead c) s fun t => t.m.mem = s.m.mem ∧ c ∈ t.m.safe.recs ∧ c ∉ t.m.safe.reads ∧ c ∈ t.m.safe.lru ∧
        let y := t.m.cx c
        y.ready = true ∧ y.state = 1 ∧ y.prio = fld e 18 16 ∧ y.producer = fld e 63 32 ∧ y.consumer = fld e 223 192 ∧
        y.next = some (fld e 223 192) ∧ y.ring = fld e 303 256 ∧ y.acct = fld e 367 320) ∧
    (fld e 7 0 = 1 → bitAt e 96 = false → entryLowBad e = true → Answers (.contextEntryRead c) s fun t =>
      t.m.rd (s.m.ctxAddr c) 2 = [3, 1] ∧ (∀ a, a < s.m.ctxAddr c ∨ s.m.ctxAddr c + 2 ≤ a → t.byte a = s.byte a) ∧ (t.m.cx c).state = 3 ∧
      t.m.rg 0x200208 = c ∧ (t.m.rg 0x200200).testBit 0 = true) ∧
    (fld e 7 0 = 0 → bitAt e 96 = false → Answers (.contextEntryRead c) s fun t => t.m.mem = s.m.mem ∧ (t.m.cx c).state = 0 ∧ (t.m.cx c).past = [] ∧
      (t.m.cx c).next = none ∧ c ∉ t.m.safe.reads)

/-- COMMAND_RECORD_READ (R248, R250): a good record becomes a candidate of the walk; a bad one is resolved ABORTED with BAD_COMMAND. -/
def Sys2Proof.Claims.CommandRecordRead : Prop :=
  ∀ (s : State) (c j : Nat), let x := s.m.cx c
    x.next = some j → x.nextSt = 0 → x.run = none → s.sound → s.still → j ∉ x.marks →
    let a := x.recAddr j
    let raw := s.m.rdn a 64
    mapped a 64 = true → s.m.awake 4 a 64 = true →
    (badCommand raw = false → (∃ k ∈ s.m.safe.recs, k ≠ c) → Answers (.commandRecordRead c) s fun t => t.m.mem = s.m.mem ∧
      t.m.cx c = { x with nextRec := raw, nextSt := 1 } ∧ c ∉ t.m.safe.recs) ∧
    (badCommand raw = true → s.settled c → Answers (.commandRecordRead c) s fun t => t.resolvedAs c j 2 0x0802)

/-- START_CHECKS (R222, R225): a command that passes has its dies asked to RUN; the first failing check resolves it ABORTED with its code,
its dies and channels free again. -/
def Sys2Proof.Claims.StartChecksEnd : Prop :=
  ∀ (s : State) (c : Nat) (rest : List Nat) (r : Run), s.still → s.m.safe.checks = c :: rest → s.m.run? c = some r → s.m.dies.length = 6 →
    s.sound → (∀ q ∈ s.m.checkReads r.cr, s.m.awake 4 q.1 q.2 = true) → s.m.acctReach c = true →
    (s.m.startBad r.cr ((s.m.cx c).recAddr r.j) = none → Answers .startChecks s fun t => t.m.run? c = some { r with raised := true } ∧
      t.m.safe.checks = rest ∧ t.m.mem = s.m.mem ∧ ∀ d, d ∈ crDieList r.cr → 2 ≤ (s.m.die d).st ∨
        (∃ k, 2 ≤ k ∧ ((t.m.die d).waking = some k ∨ (t.m.die d).held = some k))) ∧
    (∀ code detail, s.m.startBad r.cr ((s.m.cx c).recAddr r.j) = some (code, detail) → r.launched = false → s.settled c →
      Answers .startChecks s fun t => t.resolvedAs c r.j 2 code ∧ t.m.chanFree = s.m.chanFree + nChan r.cr ∧
        (∀ d, d < 6 → (s.m.die d).ctx = some c → (t.m.die d).ctx = none))

/-- DONE reports (R25, R254, R257): while S-cores of the command have not reported, the report is recorded; the last one resolves the command
COMPLETED, with the non-zero status of the lowest-numbered S-core as the reason, or zero where every status is zero. -/
def Sys2Proof.Claims.DoneReports : Prop :=
  ∀ (s : State) (n : Nat) (r : Run), n ∈ s.m.safe.reports →
    let c := (s.m.s n).ctx
    s.m.run? c = some r → r.phase = 1 → r.outcome = 0 → n ∈ crScList r.cr →
    let v := ((s.m.s n).doneSt).getD 0
    ((∃ k ∈ crScList r.cr, k ≠ n ∧ tget? r.done k = none) → Answers (.doneReport n) s fun t =>
      t.m.run? c = some { r with done := tset r.done n v } ∧ t.m.mem = s.m.mem ∧ n ∉ t.m.safe.reports) ∧
    let status (k : Nat) : Nat := if k = n then v else (tget? r.done k).getD 0
    ∀ reason, ((∀ k ∈ crScList r.cr, status k = 0) ∧ reason = 0) ∨
      (∃ k ∈ crScList r.cr, status k ≠ 0 ∧ (∀ l ∈ crScList r.cr, l < k → status l = 0) ∧ reason = status k % 65536) →
    ((∀ k ∈ crScList r.cr, k = n ∨ (tget? r.done k).isSome = true) → r.ended = false → s.settled c →
      Answers (.doneReport n) s fun t => t.resolvedAs c r.j 1 reason ∧
      t.m.chanFree = s.m.chanFree + nChan r.cr ∧ (t.m.s n).running = (if r.launched = true then false else (s.m.s n).running))

/-- Aborts (R254, R256): the oldest fault event fixes ABORTED and stops the command's S-cores, unless its outcome is fixed; when its accesses are
done it is resolved with the event's reason. -/
def Sys2Proof.Claims.CommandAborts : Prop :=
  ∀ (s : State) (r : Run),
    (∀ e rest, s.m.safe.events = e :: rest → s.m.run? e.ctx = some r → r.outcome = 0 → s.noBlock → Answers .commandFaultEvent s fun t =>
      t.m.run? e.ctx = some { r with outcome := 2, reason := e.reason, detail := e.detail, tFix := s.m.time, phase := 2 } ∧
      t.m.safe.events = rest ∧ t.m.mem = s.m.mem ∧ (r.launched = true → ∀ n, n ∈ crScList r.cr → (t.m.s n).running = false)) ∧
    (∀ e rest, s.m.safe.events = e :: rest → s.m.run? e.ctx = some r → r.outcome ≠ 0 →
      exec .commandFaultEvent s = .next { s with m := { s.m with safe := { s.m.safe with events := rest } } }) ∧
    (∀ c, s.m.run? c = some r → r.phase = 2 → (∀ x ∈ s.m.ers.txns, x.ctx ≠ c) → s.settled c →
      Answers (.abortDrainDone c) s fun t => t.resolvedAs c r.j 2 r.reason)

/-! Host accesses (R24, R216, R244, R376 to R378). -/

/-- WORK_BITMAP_WRITE (R24, R216, R244): with nothing waiting before it, exactly the bits written as one are set, those of the own slice for a
VF, and bytes outside the bitmap stay; behind an earlier write that waits, it waits and sets nothing. -/
def Sys2Proof.Claims.WorkBitmapWrite : Prop :=
  ∀ (s : State) (fn off : Nat) (data : List Byte),
    (s.m.hostReach fn = true → s.m.opened = true → s.m.sleepers = [] → Mem.wfD 0 s.m.mem = true → Answers (.workBitmapWrite fn off data) s fun t =>
      (∀ c, c ∈ t.m.safe.mirror ↔ c ∈ s.m.safe.mirror ∨ (8 * off ≤ c ∧ c < 8 * off + 8 * data.length ∧ c < 65536 ∧
        (leNat data).testBit (c - 8 * off) = true ∧ (fn = 0 ∨ c / 1024 = fn))) ∧
      (∀ a, a < s.m.img.bitmap ∨ s.m.img.bitmap + 8192 ≤ a → t.byte a = s.byte a) ∧ t.m.safe.ctx = s.m.safe.ctx) ∧
    (s.m.hostReach fn = true → s.m.opened = true → (∃ y ∈ s.m.sleepers, y.wr = true) →
      (∀ y ∈ s.m.sleepers, y.space = .dev ∧ s.m.hostAwake y = false) → Answers (.workBitmapWrite fn off data) s fun t =>
      t.m.safe = s.m.safe ∧ t.m.mem = s.m.mem ∧ t.m.sleepers.length = s.m.sleepers.length + 1) ∧
    (s.m.opened = false → exec (.workBitmapWrite fn off data) s = .next s)

/-- Accesses of the PF through BAR2 (R21, R216, R376): outside the bitmap, with the dies on its way awake and nothing waiting, a write changes
its bytes alone and a read returns them; an access to a die in DEEP waits and changes no byte. -/
def Sys2Proof.Claims.HostBar2 : Prop :=
  ∀ (s : State) (off : Nat) (data : List Byte), s.m.hostReach 0 = true → s.m.opened = true → 0 < data.length →
    let n := data.length
    let a := s.m.bar2Base + off
    off + n ≤ 2 ^ 36 → mapped a n = true → a + n ≤ s.m.img.bitmap ∨ s.m.img.bitmap + 8192 ≤ a → s.m.sleepers = [] → s.sound → s.still → Mem.wfD 0 s.m.mem = true →
    (s.m.awake 4 a n = true → ∀ ro, Answers (.hostBar2Write 0 off ro data) s fun t =>
      t.m.rd a n = data ∧ (∀ b, b < a ∨ a + n ≤ b → t.byte b = s.byte b) ∧ t.m.host.ur = false ∧ t.m.safe = s.m.safe) ∧
    (s.m.awake 4 a n = true → Answers (.hostBar2Read 0 off n) s fun t =>
      t.m.host.data = s.m.rd a n ∧ t.m.mem = s.m.mem ∧ t.m.host.ur = false) ∧
    (s.m.awake 4 a n = false → ∀ ro, Answers (.hostBar2Write 0 off ro data) s fun t => t.m.mem = s.m.mem ∧
      t.m.sleepers = [{ fn := 0, addr := a, len := n, wr := true, relaxed := ro, data := data }])

/-- An access of a VF beyond its range (R377, R378): a read returns zeros, a write changes nothing, MEM_REFUSED is raised and the first one
records its address and function. That an access which only ends beyond the range is refused whole is the model's choice
(log entry 42). -/
def Sys2Proof.Claims.RefusedHostAccess : Prop :=
  ∀ (s : State) (fn off : Nat) (data : List Byte), s.m.hostReach fn = true → s.m.opened = true → s.m.sleepers = [] →
    s.m.reg.parityOk = true → 0 < data.length → fn ≠ 0 → fn < 64 →
    off < 2 ^ 32 → s.m.vfSize fn < off + data.length → s.m.host.refOpen = true →
    let a := s.m.vfBase fn + off
    let refused (t : State) : Prop := t.m.mem = s.m.mem ∧ t.m.safe = s.m.safe ∧ (t.m.rg 0x700010).testBit 0 = true ∧
      t.m.rg 0x700018 = a % 2 ^ 32 ∧ t.m.rg 0x70001C = (a / 2 ^ 32 % 65536 + 2 ^ 16 * fn) % 2 ^ 32
    (Answers (.hostBar2Read fn off data.length) s fun t => refused t ∧ t.m.host.data = List.replicate data.length 0) ∧
    (∀ ro, Answers (.hostBar2Write fn off ro data) s refused)

/-! Registers (R382 to R394). -/

/-- Event registers read and clear (R383, R384): a read of the whole register returns it and clears every RC bit, a read of an aliased bit
returns and clears that bit alone; no other register changes. -/
def Sys2Proof.Claims.EventRegistersClearOnRead : Prop :=
  ∀ (s : State) (off b rc : Nat), s.hostFree → b < 32 →
    (off, rc) ∈ [(0x20, 0xF), (0x100018, 3), (0x200200, 3), (0x300080, 0x1F), (0x500020, 0x3F), (0x600020, 0xFF), (0x700010, 3), (0x800040, 0xFFF)] →
    let al := off / 2 ^ 20 * 2 ^ 20 + 0x80000 + off % 2 ^ 20 * 32 + 4 * b
    (Answers (.rcRegisterRead 0 (.bar0 off) 15) s fun t => t.m.host.data = natLE 4 (s.m.rg off &&& rc) ∧ t.m.rg off &&& rc = 0 ∧
      (∀ k, k ≠ off → t.m.rg k = s.m.rg k) ∧ t.m.mem = s.m.mem ∧ t.nv = s.nv) ∧
    (Answers (.aliasAccess al false 0) s fun t => t.m.host.data = natLE 4 (if (s.m.rg off &&& rc).testBit b then 1 else 0) ∧
      (∀ k, (t.m.rg off).testBit k = ((s.m.rg off).testBit k && !(k == b && rc.testBit b))) ∧ (∀ k, k ≠ off → t.m.rg k = s.m.rg k))

/-- Register writes (R382, R383, R385): the enabled bytes of a writable field take the value, an aliased bit is written alone; a register of a
closed block drops the write; an access that does not reach the function ends in Unsupported Request. -/
def Sys2Proof.Claims.RegisterWrites : Prop :=
  ∀ (s : State) (off v be b : Nat), off ∈ [0x24, 0x10001C, 0x200204, 0x300084, 0x500024, 0x600024, 0x700014, 0x80004C] →
    let al := off / 2 ^ 20 * 2 ^ 20 + 0x80000 + off % 2 ^ 20 * 32 + 4 * b
    (s.hostFree → Answers (.registerWrite 0 (.bar0 off) v be) s fun t =>
      (∀ k, (t.m.rg off).testBit k = if k < 11 ∧ be.testBit (k / 8) = true then v.testBit k else (s.m.rg off).testBit k) ∧
      (∀ k, k ≠ off → t.m.rg k = s.m.rg k) ∧ t.m.host.ur = false ∧ t.m.mem = s.m.mem ∧ t.nv = s.nv) ∧
    (s.hostFree → b < 11 → Answers (.aliasAccess al true v) s fun t =>
      (∀ k, (t.m.rg off).testBit k = if k = b then v.testBit 0 else (s.m.rg off).testBit k) ∧ (∀ k, k ≠ off → t.m.rg k = s.m.rg k)) ∧
    (s.m.hostReach 0 = true → s.m.sleepers = [] → s.m.opened = false → 6 ≤ off / 2 ^ 20 →
      exec (.registerWrite 0 (.bar0 off) v be) s = .next { s with m := { s.m with host := { s.m.host with data := [], ur := false } } }) ∧
    (s.m.hostReach 0 = false → exec (.registerWrite 0 (.bar0 off) v be) s = .next { s with m := { s.m with host := { s.m.host with data := [], ur := true } } })

/-- Pairs (R385): a read of the low half latches the high half, which the next read of the high half returns whatever the time has become; a
write of the low half takes effect only with the write of the high half. -/
def Sys2Proof.Claims.RegisterPairs : Prop :=
  ∀ (s : State), s.m.hostReach 0 = true → s.m.sleepers = [] →
    (Answers (.pairLoRead 0x14) s fun t => t.m.host.data = natLE 4 s.m.time ∧ t.m.time = s.m.time ∧
      ∀ u : State, u.m.reg = t.m.reg → u.m.hostReach 0 = true → u.m.sleepers = [] → Answers (.rcRegisterRead 0 (.bar0 0x18) 15) u fun w =>
        w.m.host.data = natLE 4 (s.m.time / 2 ^ 32)) ∧
    (s.m.opened = true → ∀ lo hi, Answers (.registerWrite 0 (.bar0 0x700000) lo 15) s fun t => (∀ k, t.m.rg k = s.m.rg k) ∧
      Answers (.pairHiWrite 0x700004 hi) t fun u => u.m.rg 0x700000 &&& 0xC0000000 = lo &&& 0xC0000000 ∧
        u.m.rg 0x700004 &&& 0xFFFF = hi &&& 0xFFFF ∧ (∀ k, k ≠ 0x700000 → k ≠ 0x700004 → u.m.rg k = s.m.rg k))

/-- Configuration space (R347, R350, R372, R373, R375, R392): it answers once power-on reset is over, in D3hot and before an image is active too:
the identity of every function, the DVSEC with the words of the load and UNIT_ID; a write of Device Control 2, whose offset is the model's choice
(log entry 92), sets the completion timeout range. -/
def Sys2Proof.Claims.ConfigurationSpace : Prop :=
  ∀ (s : State), s.m.ld.phase ≠ 0 → s.m.pw.perst = false → s.m.sleepers = [] → s.m.host.crsUntil ≤ s.m.time →
    let reads (fn off v : Nat) : Prop := Answers (.rcRegisterRead fn (.cfg off) 15) s fun t =>
      t.m.host.data = natLE 4 v ∧ t.m.host.ur = false ∧ t.m.reg = s.m.reg ∧ t.m.mem = s.m.mem ∧ t.nv = s.nv
    (∀ fn, fn < 64 → reads fn 0 (Config.vendorId % 2 ^ 16 + 2 ^ 16 * (if fn = 0 then 0x1152 else 0x1153))) ∧
    reads 0 0x400 0x00010023 ∧ reads 0 0x408 1 ∧ reads 0 0x40C s.m.loadStatus ∧ reads 0 0x410 s.m.ld.detail ∧
    reads 0 0x414 (fld Config.unitId 31 0) ∧ reads 0 0x418 (fld Config.unitId 63 32) ∧ reads 0 0x41C 0 ∧
    (∀ v, Answers (.registerWrite 0 (.cfg 0x68) v 15) s fun t => t.m.host.cto = v % 16 ∧ t.m.reg = s.m.reg ∧ t.m.mem = s.m.mem)

/-- GRM registers (R394): a position is refused while a running command holds the die, else stored as step and entry and the Groomer drops what
it holds; CLEAR_HALT marks the Groomers named and no other. -/
def Sys2Proof.Claims.GroomerRegisters : Prop :=
  ∀ (s : State) (d v : Nat), d < 4 → s.hostFree → s.m.reg.parityOk = true →
    (s.m.inRunSet d = true → Answers (.grmPositionWrite d v) s fun t => (t.m.rg 0x800040).testBit (8 + d) = true ∧
      (∀ k, k ≠ 0x800040 → t.m.rg k = s.m.rg k) ∧ t.m.grm = s.m.grm) ∧
    (s.m.inRunSet d = false → Answers (.grmPositionWrite d v) s fun t =>
      t.m.gPos d = (fld v 47 0, if fld v 59 48 < s.m.gEntries d then fld v 59 48 else 0) ∧ (t.m.g d).cur = none ∧ (t.m.g d).inq = [] ∧
      (t.m.g d).win = [] ∧ (∀ k, k < 4 → k ≠ d → t.m.g k = s.m.g k ∧ t.m.gPos k = s.m.gPos k)) ∧
    (∀ mask, Answers (.clearHalt mask) s fun t =>
      (∀ k, k < 4 → t.m.g k = { s.m.g k with clear := mask.testBit k || (s.m.g k).clear }) ∧ t.m.reg = s.m.reg ∧ t.m.mem = s.m.mem)

/-- SAFE commands (R387, R389, Table 14.6): SAFE_SLEEP_CTRL keeps two bits a die, at most 2, and a die that stands below its floor starts to
wake; CMD_REJECT shows where a guarded command was refused. -/
def Sys2Proof.Claims.SafeRegisters : Prop :=
  ∀ (s : State) (v : Nat), s.m.hostReach 0 = true → s.m.sleepers = [] → s.m.ld.phase ≠ 7 → s.m.dies.length = 6 → s.m.reg.parityOk = true →
    (Answers (.safeSleepCtrlWrite v) s fun t => (∀ d, d < 6 → t.m.floorOf d = min 2 (v / 4 ^ d % 4)) ∧ t.m.mem = s.m.mem ∧
      (∀ k, k ≠ 0x100010 → t.m.rg k = s.m.rg k) ∧
      ∀ d, d < 6 → (s.m.die d).entering = none → (s.m.die d).waking = none →
        (t.m.die d).waking = if (s.m.die d).st < min 2 (v / 4 ^ d % 4) then some (min 2 (v / 4 ^ d % 4)) else none) ∧
    (Answers (.cmdReject 0) s fun t => (t.m.rg 0x100018).testBit 0 = true ∧ t.m.mem = s.m.mem ∧ (∀ k, k ≠ 0x100018 → t.m.rg k = s.m.rg k)) ∧
    (Answers (.cmdReject 1) s fun t => (t.m.rg 0x300080).testBit 4 = true ∧ t.m.mem = s.m.mem ∧ (∀ k, k ≠ 0x300080 → t.m.rg k = s.m.rg k))

/-- R380 and R381 (and R215): an event register sends its vector, once, as a write with relaxed ordering clear, when its value leaves zero; a
vector that is masked, or whose message cannot leave, is pending instead; a bit set while others are set sends nothing. Stated of the operation
that every event goes through, and seen at CMD_REJECT. -/
def Sys2Proof.Claims.EventVectors : Prop :=
  (∀ (m : Mod) (off voff bits : Nat), eventVec off = some voff → bits ≠ 0 → bits < 2 ^ 32 → m.reg.sound voff = true →
    let vec := m.rg voff
    let free : Bool := !m.masked 0 vec && m.canSend 0
    (m.rg off = 0 → free = true → (m.raiseEv off bits).host.sent = (0, vec) :: m.host.sent ∧
      (m.raiseEv off bits).host.writes =
        ⟨0, m.msixEntry 0 (vec * 16) + 2 ^ 32 * m.msixEntry 0 (vec * 16 + 4), 4, false, some vec⟩ :: m.host.writes ∧
      (m.raiseEv off bits).rg off = bits) ∧
    (m.rg off = 0 → free = false → (m.raiseEv off bits).host.sent = m.host.sent ∧ (m.raiseEv off bits).host.writes = m.host.writes ∧
      (0, vec) ∈ (m.raiseEv off bits).host.pba ∧ (m.raiseEv off bits).rg off = bits) ∧
    (m.rg off ≠ 0 → (m.raiseEv off bits).host = m.host ∧ (m.raiseEv off bits).rg off = m.rg off ||| bits)) ∧
  (∀ (s : State), s.m.hostReach 0 = true → s.m.sleepers = [] → s.m.canSend 0 = true →
    (s.m.rg 0x100018 = 0 → s.m.reg.sound 0x10001C = true → s.m.masked 0 (s.m.rg 0x10001C) = false →
      Answers (.cmdReject 0) s fun t => t.m.host.sent = (0, s.m.rg 0x10001C) :: s.m.host.sent) ∧
    (s.m.rg 0x100018 ≠ 0 → Answers (.cmdReject 0) s fun t => t.m.host.sent = s.m.host.sent ∧ t.m.host.writes = s.m.host.writes))

/-! Meters (R395 to R402). -/

/-- METER_TAKE (R400): the snapshot takes the selected meter, its COUNT is answered, and the meter starts anew; METER_CONFIG_WRITE of BASE changes
it for the selected meter alone and clears that meter (R401). The count of the period in progress goes on (R396). -/
def Sys2Proof.Claims.MeterTakeAndConfiguration : Prop :=
  ∀ (s : State) (v : Nat), s.m.hostReach 0 = true → s.m.sleepers = [] →
    let k := s.m.rg 0x400000
    let x := tget {} s.m.mon.meter k
    (Answers .meterTake s fun t => t.m.mon.snap = x ∧ t.m.mon.snapNo = k ∧ t.m.host.data = natLE 4 x.count ∧
      tget {} t.m.mon.meter k = { since := s.m.time, acc := x.acc } ∧ (∀ j, j ≠ k → tget {} t.m.mon.meter j = tget {} s.m.mon.meter j) ∧ t.m.reg = s.m.reg) ∧
    (Answers (.meterConfigWrite 0x400008 v) s fun t => t.m.rg (meterKey k 0x400008) = v % 2 ^ 32 ∧
      (∀ j, j ≠ meterKey k 0x400008 → t.m.rg j = s.m.rg j) ∧ tget {} t.m.mon.meter k = { since := s.m.time, acc := x.acc } ∧
      (∀ j, j ≠ k → tget {} t.m.mon.meter j = tget {} s.m.mon.meter j))

/-- METER_PERIOD (R396): with one meter configured, enabled and attached to a rail's current, that meter records one sample of it: COUNT goes up
by one, SUM by the value with saturation; every other meter stays. -/
def Sys2Proof.Claims.MeterPeriodSample : Prop :=
  ∀ (s : State) (k : Nat), 1024 ≤ k → k < 1088 → s.m.ld.phase ≠ 0 → s.m.reg.parityOk = true →
    (s.m.reg.v.filter (fun p => decide (0x10000000 ≤ p.1) && p.1 % 0x40 == 4)).map (fun p => p.1) = [meterKey k 4] →
    bitAt (s.m.mcfg k 4) 9 = true → fld (s.m.mcfg k 4) 7 0 = 0x15 → s.m.mcfg k 0x18 < 11 →
    let v := Nat.min (tget 0 s.m.pw.railMa (s.m.mcfg k 0x18)) 0xFFFFFFFF
    let x := tget {} s.m.mon.meter k
    Answers .meterPeriod s fun t => let y := tget {} t.m.mon.meter k
      y.count = (x.count + 1) % 2 ^ 48 ∧ y.sum = min (x.sum + v) (2 ^ 64 - 1) ∧ y.min = min x.min v ∧ y.max = max x.max v ∧
      (∀ j, j ≠ k → tget {} t.m.mon.meter j = tget {} s.m.mon.meter j) ∧ t.m.mem = s.m.mem

/-! The load, the start gate, the mailbox and the flash (R330 to R371). -/

/-- LOAD_HEADER (R332, R333, R347): phase 1 ends with the first failure of the header's checks, or goes on to phase 2 with the segment key
derived from ROOT_KEY and the header's salt. That a failure whose code is not retried counts as an attempt too and raises ALERT_N is the
model's choice (log entry 62). -/
def Sys2Proof.Claims.LoadHeader : Prop :=
  ∀ (s : State), s.m.loads 1 = true → s.m.reg.parityOk = true → Answers .loadHeader s fun t => t.nv = s.nv ∧ t.m.mem = s.m.mem ∧
    match s.nv.headerBad with
    | some (code, detail) => s.loadFailed t code ∧ t.m.ld.detail = detail ∧ t.m.ld.hdr = []
    | none => t.m.ld.phase = 2 ∧ t.m.ld.key = hkdf384 (Config.rootKey ++ s.nv.bytes 40 32) (segInfo 0) ∧
      t.m.ld.hdr = s.nv.bytes 0 (512 + 64 * hSeg (leNat (s.nv.bytes 0 256)))

/-- LOAD_SEGMENT (R335, R337, R338): an erased segment fails with 0x0C08, one whose hash differs from the table with 0x0C06; else the load fails
with a code of its later checks or has taken the segment's bytes, which stand in the staging area in HBM (R346); no other byte changes. -/
def Sys2Proof.Claims.LoadSegment : Prop :=
  ∀ (s : State), s.m.loads 2 = true → s.m.pw.hbmReady = true → s.m.reg.parityOk = true → Mem.wfD 0 s.m.mem = true →
    let n := s.m.ld.stream.length
    let i := s.m.ld.seg
    let bs := s.nv.bytes (flashSeg (hSeg (leNat (s.m.ld.hdr.take 256))) i) 65536
    Answers .loadSegment s fun t => t.nv = s.nv ∧
      (∀ a, a < 0x0047F0000000 + n ∨ 0x0047F0000000 + n + 65504 ≤ a → t.byte a = s.byte a) ∧
      if bs.all (fun b => b == 0xFF) then s.loadFailed t 0x0C08
      else if sha384 bs ≠ (s.m.ld.hdr.drop (512 + 64 * i)).take 48 then s.loadFailed t 0x0C06
      else (∃ code, code ∈ [0x0C01, 0x0C07, 0x0C08, 0x0C09] ∧ s.loadFailed t code) ∨
        (t.m.ld.seg = i + 1 ∧ t.m.ld.stream.take s.m.ld.stream.length = s.m.ld.stream ∧
          (∀ k, n ≤ k → k < t.m.ld.stream.length → t.byte (0x0047F0000000 + k) = nth 0 t.m.ld.stream k) ∧
          (t.m.ld.phase = 2 ∨ t.m.ld.phase = 3))

/-- LOAD_CHECKS with no DEVICE_DATA record (R225, R344): the first failing activation check fails the attempt, none lets it go on; memory stays. -/
def Sys2Proof.Claims.LoadChecks : Prop :=
  ∀ (s : State), s.m.loads 3 = true → s.m.reg.parityOk = true → recsOf s.m.ld.recs 15 = [] → Answers .loadChecks s fun t => t.m.mem = s.m.mem ∧ t.m.img = s.m.img ∧
    match s.m.staged.activationBad with
    | some (code, detail) => s.loadFailed t code ∧ t.m.ld.detail = detail
    | none => t.m.ld.phase = 4 ∧ t.m.ld.attempt = s.m.ld.attempt

/-- ACTIVATION (R351): the image is active and waits at the gate; memory tiles without DEVICE_DATA and the staging area read zero, the rest of
HBM and LPDDR-5X stays, Groomer positions are zero, DONE_N is released; every die stands in NAP at least, which is the model's choice (log
entry 43). -/
def Obligations.ActivationActs : Prop :=
  ∀ (s : State), s.m.loads 4 = true → s.m.reg.parityOk = true → Mem.wfD 0 s.m.mem = true → Answers .activation s fun t =>
    t.m.ld.phase = 5 ∧ t.m.ld.active = true ∧ t.m.ld.started = false ∧ t.m.pw.doneLow = false ∧ (t.m.rg 0x20).testBit 0 = true ∧
    (∀ a, spBase ≤ a → (a - spBase) / 0x400000 ∉ s.m.ld.dataTiles → t.byte a = 0) ∧
    (∀ a, 0x0047F0000000 ≤ a → a < 0x004800000000 → t.byte a = 0) ∧
    (∀ a, a < spBase → a < 0x0047F0000000 ∨ 0x004800000000 ≤ a → t.byte a = s.byte a) ∧
    (∀ d, d < 4 → t.m.gPos d = (0, 0)) ∧ (∀ d, d < s.m.dies.length → 1 ≤ (t.m.die d).st ∧ (t.m.die d).ctx = none)

/-- MODULE_START (R353, R354): at the gate the module starts in independent start mode or after eight high samples of DONE_N, and not before, nor after a
fatal fault; each tick at the gate counts one sample (log entry 6). -/
def Sys2Proof.Claims.StartGate : Prop :=
  ∀ (s : State), s.m.reg.parityOk = true →
    (s.m.ld.phase = 5 → s.m.mon.fltState = 0 → s.m.pw.startMode = true ∨ s.m.ld.high = 8 → Answers .moduleStart s fun t =>
      t.m.ld.phase = 6 ∧ t.m.ld.started = true ∧ (t.m.rg 0x20).testBit 1 = true ∧ t.m.mem = s.m.mem) ∧
    (s.m.ld.phase ≠ 5 ∨ s.m.mon.fltState ≠ 0 ∨ (s.m.pw.startMode = false ∧ s.m.ld.high ≠ 8) → exec .moduleStart s = .next s) ∧
    (s.pending = [] → s.m.ld.phase = 5 → s.m.pw.startMode = false → s.m.ld.high < 8 → ∃ t, step s = .next t ∧ t.m.time = s.m.time + 1 ∧
      t.m.ld.high = (if s.m.doneHigh then s.m.ld.high + 1 else 0))

/-- HBM_READY (R426; log entry 41): the supplies are up, and CD[0] and IOD[0] stand in NAP at least. -/
def Sys2Proof.Claims.HbmReady : Prop :=
  ∀ (s : State), s.m.pw.on = 2 → s.m.pw.hbmReady = false → s.m.dies.length = 6 → Answers .hbmReady s fun t =>
    t.m.pw.hbmReady = true ∧ (t.m.die 0).st = max 1 (s.m.die 0).st ∧ (t.m.die 4).st = max 1 (s.m.die 4).st ∧
    (∀ d, d ≠ 0 → d ≠ 4 → t.m.die d = s.m.die d) ∧ t.m.mem = s.m.mem ∧ t.m.ld = s.m.ld

/-- The mailbox (R366, R367, R379): a request is taken unless one is in hand; its end shows a 512-byte report with the nonce at byte 32, or
the certificate; another CMD fails with MBOX_FORMAT; CMD 0 frees lock and state. The host reads STATE and ERROR, RESP_LEN and RESPONSE through
BAR4, which changes nothing. That a CMD is ignored while a response is being produced is the model's choice (log entry 38). -/
def Sys2Proof.Claims.MailboxCommands : Prop :=
  ∀ (s : State), let b := s.m.mbox
    (s.m.hostReach 0 = true → s.m.sleepers = [] →
      (b.state ≠ 1 →
        (Answers .getReport s fun t => t.m.mbox = { b with cmd := 1, state := 1, err := 0, resp := [], cmdSeen := true } ∧ t.m.reg = s.m.reg) ∧
        (Answers .getCert s fun t => t.m.mbox = { b with cmd := 2, state := 1, err := 0, resp := [], cmdSeen := true } ∧ t.m.reg = s.m.reg)) ∧
      (∀ v, 2 < v → v < 256 → Answers (.mboxFormat v) s fun t => t.m.mbox.state = 3 ∧ t.m.mbox.err = 0x0E01 ∧
        t.m.mbox.resp = b.resp ∧ t.m.reg = s.m.reg) ∧
      (Answers .mboxRelease s fun t => t.m.rg 0x300010 = 0 ∧ t.m.mbox.cmd = 0 ∧ t.m.mbox.state = 0 ∧ (∀ k, k ≠ 0x300010 → t.m.rg k = s.m.rg k)) ∧
      (Answers (.rcRegisterRead 0 (.bar4 0x0FFF0004) 15) s fun t => t.m.host.data = natLE 4 (b.state + 2 ^ 16 * b.err) ∧ t.m.mbox = b ∧ t.nv = s.nv) ∧
      (Answers (.rcRegisterRead 0 (.bar4 0x0FFF0008) 15) s fun t => t.m.host.data = natLE 4 b.resp.length ∧ t.m.mbox = b ∧ t.nv = s.nv) ∧
      (∀ k, k < 1024 → 4 * k + 4 ≤ b.resp.length → Answers (.rcRegisterRead 0 (.bar4 (0x0FFF1000 + 4 * k)) 15) s fun t =>
        t.m.host.data = (b.resp.drop (4 * k)).take 4 ∧ t.m.mbox = b ∧ t.nv = s.nv)) ∧
    (b.state = 1 → (Answers .getReport s fun t => t.m.mbox = b ∧ t.m.reg = s.m.reg) ∧ (Answers .getCert s fun t => t.m.mbox = b ∧ t.m.reg = s.m.reg)) ∧
    (b.state = 1 → b.cmd = 1 → Answers .mboxReportDone s fun t => t.m.mbox.state = 2 ∧ t.m.mbox.resp.length = 512 ∧
      (t.m.mbox.resp.drop 32).take 48 = mread 0 b.nonce 0 48 ∧ t.m.reg = s.m.reg) ∧
    (b.state = 1 → b.cmd = 2 → Answers .mboxReportDone s fun t => t.m.mbox.state = 2 ∧
      t.m.mbox.resp = Config.certificate.take 4096 ∧ t.m.reg = s.m.reg)

/-- The mailbox lock (R366, R391): taken only while free; broken, with MBOX_BROKEN, when no CMD followed. -/
def Sys2Proof.Claims.MailboxLock : Prop :=
  ∀ (s : State) (v : Nat), s.m.hostReach 0 = true → s.m.sleepers = [] → s.m.reg.parityOk = true →
    (s.m.rg 0x300010 = 0 → v % 65536 ≠ 0 → Answers (.mboxLock v) s fun t => t.m.rg 0x300010 = v % 65536 ∧ t.m.mbox.cmdSeen = false ∧
      (∀ k, k ≠ 0x300010 → t.m.rg k = s.m.rg k)) ∧
    (s.m.rg 0x300010 ≠ 0 → Answers (.mboxLock v) s fun t => t.m.reg = s.m.reg ∧ t.m.mbox = s.m.mbox) ∧
    (s.m.rg 0x300010 ≠ 0 → s.m.mbox.cmdSeen = false → Answers .mboxLockBreak s fun t => t.m.rg 0x300010 = 0 ∧ (t.m.rg 0x300080).testBit 2 = true) ∧
    (s.m.mbox.cmdSeen = true → exec .mboxLockBreak s = .next s)

/-- Flash commands (R369, R370): an accepted erase starts, and one that is not accepted, while the flash is locked or a load runs or an
operation is in progress, is shown as refused; the sector then reads FF; bytes written wait in the buffer, and those it has no room for wait with
the host's credits withheld; while the flash is locked or a load runs they are dropped and FLASH_REFUSED shows it; programming takes the oldest
bytes of one page and clears bits of their bytes alone; a read of BAR4 returns the flash's bytes. That an erase while BUSY shows FLASH_REFUSED is
the model's choice (log entry 58). -/
def Obligations.FlashCommands : Prop :=
  ∀ (s : State), s.m.hostReach 0 = true → s.m.sleepers = [] → s.m.reg.parityOk = true → Mem.wfD 0xFF s.nv.flash = true →
    let fb (t : State) (a : Nat) : Byte := mget 0xFF t.nv.flash a
    let room := 4096 - s.nv.buf.length
    (∀ k, s.m.flashOpen = true → k ≤ 4094 → s.nv.busy = false → Answers (.flashErase k) s fun t => t.nv = { s.nv with erase := some k } ∧
      t.m.reg = s.m.reg) ∧
    (∀ k, k < 4096 → s.m.flashOpen = false ∨ 4094 < k ∨ s.nv.busy = true → Answers (.flashErase k) s fun t => t.nv = s.nv ∧
      (t.m.rg 0x300028).testBit 1 = true ∧ (∀ j, j ≠ 0x300028 → t.m.rg j = s.m.rg j)) ∧
    (∀ k, s.nv.erase = some k → Answers .flashEraseDone s fun t => t.nv.erase = none ∧ t.nv.buf = s.nv.buf ∧ t.nv.blown = s.nv.blown ∧
      (∀ a, 65536 * k ≤ a → a < 65536 * k + 65536 → fb t a = 0xFF) ∧ (∀ a, a < 65536 * k ∨ 65536 * k + 65536 ≤ a → fb t a = fb s a) ∧
      (s.nv.buf = [] → (t.m.rg 0x300080).testBit 3 = true)) ∧
    (∀ off data, s.m.flashOpen = true → off + data.length ≤ 0x0FFF0000 → 0 < data.length →
      let l := data.zipIdx.map fun p => (off + p.2, p.1)
      (data.length ≤ room → Answers (.flashWrite off data) s fun t => t.nv = { s.nv with buf := s.nv.buf ++ l } ∧ t.m.reg = s.m.reg ∧
        t.m.sleepers = []) ∧
      (room < data.length → Answers (.flashWrite off data) s fun t => t.nv = { s.nv with buf := s.nv.buf ++ l.take room } ∧
        t.m.reg = s.m.reg ∧ ∃ x, t.m.sleepers = [x] ∧ x.data = data.drop room ∧ x.addr = off + room)) ∧
    (∀ off data, s.m.flashOpen = false → off + data.length ≤ 0x0FFF0000 → 0 < data.length → Answers (.flashWrite off data) s fun t => t.nv = s.nv ∧
      (t.m.rg 0x300028).testBit 1 = true ∧ (∀ j, j ≠ 0x300028 → t.m.rg j = s.m.rg j) ∧ t.m.sleepers = []) ∧
    (∀ a b rest, s.nv.erase = none → s.nv.buf = (a, b) :: rest →
      let l := (s.nv.buf.takeWhile (fun p => p.1 / 256 == a / 256)).take 256
      Answers .flashPageProgrammed s fun t => t.nv.buf = s.nv.buf.drop l.length ∧ t.nv.erase = none ∧
        (∀ c, fb t c = (l.filter (fun p => p.1 == c)).foldl (fun x p => x &&& p.2) (fb s c)) ∧ t.nv.blown = s.nv.blown ∧
        (t.nv.buf = [] → (t.m.rg 0x300080).testBit 3 = true)) ∧
    (∀ off, off + 4 ≤ 0x0FFF0000 → Answers (.rcRegisterRead 0 (.bar4 off) 15) s fun t => t.m.host.data = mread 0xFF s.nv.flash off 4 ∧ t.nv = s.nv)

/-! The non-volatile parts over every command (R336, R368, R370). -/

/-- R368 over every command: RAISE_FLOOR blows fuses until the floor equals the SEC_VERSION of the active image (64 at most, the fuses there
are); with no active image or a SEC_VERSION not above the floor it changes nothing; no step, whatever the command, lowers the floor; and the
load of a well-formed header for this unit with a SEC_VERSION below the floor fails with ROLLBACK. -/
def Obligations.FloorNeverFalls : Prop :=
  (∀ (s : State), s.m.hostReach 0 = true → s.m.sleepers = [] →
    (s.m.ld.active = true → s.nv.floor < s.m.img.sec → Answers .raiseFloor s fun t => t.nv.floor = min 64 s.m.img.sec ∧ t.m.reg = s.m.reg ∧
      t.nv.flash = s.nv.flash ∧ t.nv.buf = s.nv.buf ∧ t.nv.erase = s.nv.erase) ∧
    (s.m.ld.active = false ∨ s.m.img.sec ≤ s.nv.floor → Answers .raiseFloor s fun t => t.nv = s.nv ∧ t.m.reg = s.m.reg)) ∧
  (∀ (s t : State), step s = .next t → s.nv.blown ≤ t.nv.blown ∧ s.nv.floor ≤ t.nv.floor) ∧
  (∀ (s : State), s.m.loads 1 = true → s.m.reg.parityOk = true → let x := leNat (s.nv.bytes 0 256)
    fld x 63 0 = 0x4D494E4F4D52414B → fld x 191 160 = 1 → 1 ≤ hSeg x → hSeg x ≤ 4090 → fld x 2047 576 = 0 → fld x 95 64 = 0x1152 →
    fld x 255 192 = 0 ∨ fld x 255 192 = Config.unitId → hSec x < s.nv.floor →
    Answers .loadHeader s fun t => s.loadFailed t 0x0C03 ∧ t.m.ld.detail = s.nv.floor ∧ t.nv = s.nv)

/-- The flash, device memory and host memory stay in canonical form, the write buffer within its 4096 bytes and the dies six over every step
(R330, R370). -/
def Obligations.NonVolatileInvariant : Prop :=
  ∀ (s t : State), s.nv.Inv → s.m.MemInv → s.m.dies.length = 6 → step s = .next t → t.nv.Inv ∧ t.m.MemInv ∧ t.m.dies.length = 6

/-- At reset the invariant of the non-volatile parts, of the memories and of the dies holds, and the queue is empty (log entry 5). -/
def Obligations.ResetMeetsInvariants : Prop :=
  State.reset.nv.Inv ∧ State.reset.m.MemInv ∧ State.reset.pending = [] ∧ State.reset.m.dies.length = 6

/-- Only flash commands, the floor, resets and a cut of power, which end an operation of the flash (R371, R430), a wake that lets a waiting BAR4
write go on (R216, R370) and host accesses reach the non-volatile parts: an access to any other register or memory only where it lets one that
waits go first. Every other command leaves flash, buffer and fuses as they are; and no command touches the queue. -/
def Obligations.WhoReachesTheFlash : Prop :=
  ∀ (c : Instr) (s : State), Answers c s fun t => t.pending = s.pending ∧
    ((match c with
      | .flashErase _ | .flashEraseDone | .flashWrite _ _ | .flashPageProgrammed | .raiseFloor | .powerLoss | .holdoffEnd | .warmReset _
      | .safeWarmReset | .safeReload | .wakeToNapDone _ | .registerWrite _ _ _ _ | .aliasAccess _ _ _ | .pairHiWrite _ _
      | .meterConfigWrite _ _ | .safeSleepCtrlWrite _ => True
      | .rcRegisterRead _ _ _ | .pairLoRead _ | .grmPositionWrite _ _ | .clearHalt _ | .cmdReject _ | .meterTake | .fltClear | .fltInject _
      | .portRestore _ | .portDisable _ | .portEnable _ | .winCmdRead | .winCmdWrite | .winCmdClose | .routeCmdRead | .routeCmdWrite
      | .mboxLock _ | .getReport | .getCert | .mboxRelease | .mboxFormat _ | .hostBar2Write _ _ _ _ | .hostBar2Read _ _ _
      | .workBitmapWrite _ _ _ => s.m.sleepers = [] → t.nv = s.nv
      | _ => t.nv = s.nv))

/-! Resets, power, pins and link (R291, R345, R374, R410 to R432). -/

/-- Power (R371, R388, R426, R427): a rise of PWRGD starts power-on reset with the time base at 0, or is held until the low has lasted 10 ms; the end
of power-on reset samples the straps, drives DONE_N low and starts the load; a loss of power clears the module and keeps the fuses. That it empties
device memory is the model's choice (log entry 35). -/
def Sys2Proof.Claims.PowerSequence : Prop :=
  ∀ (s : State) (sm : Bool) (mid : Nat),
    let began (t : State) : Prop := t.m.pw.on = 1 ∧ t.m.time = 0 ∧ t.m.reg = {} ∧ t.m.ld = {} ∧ t.m.mem = s.m.mem ∧ t.nv = s.nv ∧
      t.m.pw.faultLow = false ∧ t.m.safe = {} ∧ t.m.mon = {}
    (s.m.pw.on = 0 → 250000 ≤ s.m.time → Answers .powerOn s began) ∧
    (s.m.pw.on = 0 → s.m.time < 250000 → exec .powerOn s = .next { s with m := { s.m with pw := { s.m.pw with riseHeld := true } } }) ∧
    (s.m.pw.on ≠ 0 → exec .powerOn s = .next s) ∧
    (s.m.pw.on = 0 → s.m.pw.riseHeld = true → Answers .pwrgdLowHoldEnd s began) ∧
    (s.m.pw.on = 1 → mid < 1024 → Answers (.porEnd sm mid) s fun t => t.m.pw.on = 2 ∧ t.m.pw.startMode = sm ∧ t.m.pw.mid = mid ∧ t.m.pw.midPor = mid ∧
      t.m.pw.doneLow = true ∧ t.m.ld.phase = 1 ∧ t.m.ld.attempt = 0 ∧ t.m.ld.active = false ∧ t.nv = s.nv) ∧
    (Answers .powerLoss s fun t => t.m.pw.on = 0 ∧ t.m.mem = [] ∧ t.m.reg = {} ∧ t.m.pw.doneLow = false ∧ t.m.pw.alert = 0 ∧ t.m.time = 0 ∧
      t.nv.blown = s.nv.blown ∧ t.nv.buf = [] ∧ t.nv.erase = none ∧ (s.nv.busy = false → t.nv = s.nv))

/-- Warm resets (R291, R410, R430 to R432): a request starts the hold-off, in which Groomers admit no block, and joins one in progress; that of
a contained module proceeds at once; PERST_N stays asserted until released, after which configuration requests are answered within 100 ms; the
reset ends with WARM_DONE and the end of the containment. -/
def Sys2Proof.Claims.WarmResetRequests : Prop :=
  ∀ (s : State), s.m.reg.parityOk = true →
    (∀ k, k ≤ 2 → s.m.ld.phase ≠ 0 → s.m.pw.warm = none → s.m.mon.fltState = 0 → Answers (.warmReset k) s fun t =>
      t.m.pw.warm = some k ∧ t.m.pw.holdoff = true ∧
      t.m.mem = s.m.mem ∧ (∀ d, (tget? s.m.grm d).isSome = true → (t.m.g d).stopped = true) ∧ (k = 0 → t.m.pw.perst = true ∧ t.m.pw.link = 0)) ∧
    (∀ k, k ≤ 2 → s.m.ld.phase ≠ 0 → s.m.pw.warm = none → s.m.mon.fltState ≠ 0 → Answers (.warmReset k) s fun t =>
      t.m.pw.warm = some k ∧ t.m.pw.holdoff = false ∧ t.m.pw.due = false ∧ t.m.safe.ctx = [] ∧ t.m.chan = [] ∧ t.m.mbox = {}) ∧
    (∀ k, 1 ≤ k → s.m.pw.warm.isSome = true → s.m.mon.fltState = 0 ∨ s.m.pw.due = false → exec (.warmReset k) s = .next s) ∧
    (s.m.hostReach 0 = true → s.m.sleepers = [] → s.m.pw.warm = none → s.m.mon.fltState = 0 → Answers .safeWarmReset s fun t =>
      t.m.pw.warm = some 3 ∧ t.m.pw.holdoff = true ∧ t.m.mem = s.m.mem) ∧
    (s.m.pw.warm.isSome = true → s.m.pw.holdoff = false → s.m.pw.due = false → s.m.pw.perst = false → Answers .warmResetEnd s fun t => t.m.pw.warm = none ∧
      (t.m.rg 0x20).testBit 3 = true ∧ t.m.mon.was = s.m.mon.was ∧ t.m.mon.first = s.m.mon.first ∧ (s.m.mon.fltState = 2 → t.m.mon.fltState = 0)) ∧
    (s.m.pw.perst = true → exec .warmResetEnd s = .next s) ∧
    (∀ mid, mid < 1024 → s.m.pw.perst = true → Answers (.perstNRelease mid) s fun t => t.m.pw.perst = false ∧ t.m.pw.mid = mid ∧
      t.m.pw.midPor = s.m.pw.midPor ∧ t.m.host.crsUntil ≤ s.m.time + 2500000 ∧ t.m.mem = s.m.mem)

/-- HOLDOFF_END (R8, R371, R401, R430, R431): the reset ends every command's work and the host's state, keeps time and image, and with an active
image leaves the compute dies in NAP with their working tiles zero. With nothing on its way, every register keeps the bits that a warm reset
keeps, those of the meters' configuration, and is at its reset value in the others. That the mailbox is cleared is the model's choice (log
entries 38 and 60). -/
def Sys2Proof.Claims.HoldoffEnds : Prop :=
  ∀ (s : State), s.m.pw.warm.isSome = true → s.m.pw.holdoff = true → s.m.sleepers = [] → s.m.dies.length = 6 → Answers .holdoffEnd s fun t =>
    t.m.pw.holdoff = false ∧ t.m.pw.warm = s.m.pw.warm ∧ t.m.safe.ctx = [] ∧ t.m.chan = [] ∧ t.m.chanFree = 16384 ∧ t.m.msgs = [] ∧
    t.m.ers.coll = [] ∧ t.m.ers.txns = [] ∧ t.m.mbox = {} ∧ t.m.time = s.m.time ∧ t.m.img.regions = s.m.img.regions ∧
    (∀ n, (t.m.s n).running = false) ∧
    (s.sound → s.still → s.m.ers.asleep = [] → s.m.ers.acks = [] →
      (∀ off x, off < 0x10000000 → regRow? off = some x → off ≠ 0x100018 → t.m.rg off &&& x.keep = s.m.rg off &&& x.keep ∧
        (x.keep = 0 → t.m.rg off = x.reset)) ∧
      (∀ off, 0x10000000 ≤ off → t.m.rg off = s.m.rg off)) ∧
    (s.nv.busy = false → t.nv = s.nv) ∧ t.nv.erase = none ∧ t.nv.buf = [] ∧ t.nv.blown = s.nv.blown ∧
    (s.m.ld.active = true → (∀ d, d < 4 → (t.m.die d).st = 1 ∧ (t.m.die d).ctx = none) ∧
      ∀ mt a, mt < 288 → s.m.resident mt = false → mtBase mt ≤ a → a < mtBase mt + 0x400000 → t.byte a = 0) ∧
    (s.m.ld.active = false → t.m.ld.phase = 1 ∧ t.m.ld.attempt = 0)

/-- SAFE_RELOAD (R345, R369, R371, Table 16.10): the image and its contexts are lost, the flash is locked, an operation of the flash in progress
ends with its buffer lost, as at every reset of Table 16.10, and a load starts from the header with its attempts at 0. That the Ersan and the
safelight are back at their initial state is the model's choice (log entry 61). -/
def Sys2Proof.Claims.Reload : Prop :=
  ∀ (s : State), s.m.hostReach 0 = true → s.m.sleepers = [] → Answers .safeReload s fun t => t.m.ld.phase = 1 ∧ t.m.ld.attempt = 0 ∧ t.m.ld.active = false ∧
    t.m.ld.started = false ∧ t.m.pw.doneLow = true ∧ t.m.safe = {} ∧ t.m.icp = {} ∧ t.m.ers = {} ∧ t.m.chan = [] ∧ t.m.rg 0x300020 = 0 ∧ t.m.flashOpen = false ∧
    t.nv.erase = none ∧ t.nv.buf = [] ∧ t.nv.blown = s.nv.blown ∧ (s.nv.busy = false → t.nv = s.nv)

/-- VF_FLR (R374): commands of the tenancy are aborted, its contexts leave the ready list, its MSI-X state is reset; contexts of other tenancies
stay as they are. -/
def Sys2Proof.Claims.FunctionLevelReset : Prop :=
  ∀ (s : State) (t : Nat), 1 ≤ t → t < 64 → s.m.ld.phase ≠ 0 → s.noBlock → Answers (.vfFlr t) s fun u => u.m.mem = s.m.mem ∧
    (∀ c, c / 1024 = t → (u.m.cx c).ready = false ∧ (u.m.cx c).next = none ∧ ∀ r, u.m.run? c = some r → r.outcome ≠ 0) ∧
    (∀ c, c / 1024 ≠ t → u.m.cx c = s.m.cx c) ∧ (∀ p, p ∈ u.m.host.msix → p.1 / 65536 ≠ t) ∧ t ∉ u.m.pw.d3

/-- Sideband lines (R353, R374, R380, R417, R418, R420): a low DONE_N resets the count of high samples; the link state, its rate and its width are taken; pending messages
that are not masked leave with the link; D3hot closes a function's BARs; a boundary-scan instruction that drives pins acts only with PERST_N
asserted and no active image, and is BYPASS otherwise, which TDO shows while the port shifts. The codes of the instructions, and those above 7
taken as BYPASS, are the model's (log entry 40). -/
def Sys2Proof.Claims.SidebandLines : Prop :=
  ∀ (s : State),
    (Answers (.doneNLineChange false) s fun t => t.m.pw.lineLow = true ∧ t.m.ld.high = 0 ∧ t.m.doneHigh = false ∧ t.m.mem = s.m.mem) ∧
    (exec (.doneNLineChange true) s = .next { s with m := { s.m with pw := { s.m.pw with lineLow := false } } }) ∧
    (∀ st g w, st < 4 → s.m.ld.phase ≠ 0 → s.m.pw.perst = false → Answers (.pcieLinkState ⟨st, g, w⟩) s fun t => t.m.pw.link = st ∧
      t.m.host.gen7 = g ∧ t.m.host.width = w ∧ t.m.mem = s.m.mem ∧
      (st = 1 ∨ st = 2 → s.m.pw.d3 = [] → ∀ v, (0, v) ∈ s.m.host.pba →
        (s.m.masked 0 v = false → (0, v) ∈ t.m.host.sent ∧ (0, v) ∉ t.m.host.pba) ∧ (s.m.masked 0 v = true → (0, v) ∈ t.m.host.pba))) ∧
    (∀ fn, fn < 64 → s.m.ld.phase ≠ 0 → (Answers (.d3hot fn true) s fun t => t.m.hostReach fn = false ∧ t.m.mem = s.m.mem) ∧
      (Answers (.d3hot fn false) s fun t => fn ∉ t.m.pw.d3 ∧ t.m.mem = s.m.mem)) ∧
    (∀ x : ScanAs, s.m.ld.phase ≠ 0 → Answers (.boundaryScan x) s fun t => t.m.mem = s.m.mem ∧ t.m.ld = s.m.ld ∧ t.m.pw.ir = x.ir ∧
      t.m.pw.scanLow = x.low ∧ (drivesPins x.ir = true → s.m.pw.perst = false ∨ s.m.ld.active = true → t.m.scanIr = 0) ∧
      (drivesPins x.ir = true → s.m.pw.perst = true → s.m.ld.active = false → t.m.scanIr = x.ir) ∧ (7 < x.ir → t.m.scanIr = 0) ∧
      (t.m.scanIr = 5 → ∀ k, t.m.sinks k = false) ∧ (x.tdi = none → t.m.pw.tdo = none) ∧
      (∀ b, x.tdi = some b → t.m.scanIr = 0 → t.m.pw.tdo = some s.m.pw.bypass ∧ t.m.pw.bypass = b))

/-! Faults, sensors and SMBus (R405 to R424, R429, R433). -/

/-- Fatal faults (R406, R408, R414): the first is contained with its code, unit, tile and address; a later one is only counted. -/
def Sys2Proof.Claims.FatalFaultContained : Prop :=
  ∀ (s : State) (code unit tile addr : Nat), 0x0F01 ≤ code → code ≤ 0x0F0E → unit < 8 → tile < 1024 → addr < 2 ^ 48 → s.m.ld.phase ≠ 0 →
    (s.unfaulted → Answers (.fatalFault code unit tile addr) s fun t => t.contained code ∧ t.m.mon.firstAddr = addr ∧ t.m.mon.firstTime = s.m.time ∧
      t.m.mon.first = code + unit * 2 ^ 16 + tile * 2 ^ 19 ∧ (t.m.rg 0x500020).testBit 0 = true) ∧
    (s.m.mon.fltState ≠ 0 → exec (.fatalFault code unit tile addr) s = .next { s with m := { s.m with
      mon := { s.m.mon with fltCount := min (s.m.mon.fltCount + 1) 65535 } } })

/-- Detectors (R373, R386, R406, R429): each is contained under its own code: HOST_LINK, SAFE_WATCHDOG, CFG_PARITY when a stored parity disagrees,
CLOCK_LOSS of a clock that is required; without its cause nothing changes. That a host read times out only with an active image, and which clock
losses count and come before HOST_LINK, are the model's choices (log entries 69 and 68). -/
def Sys2Proof.Claims.FaultDetectors : Prop :=
  ∀ (s : State), s.m.ld.phase ≠ 0 →
    (s.unfaulted → s.m.ld.active = true → Answers .hostCompletionTimeout s fun t => t.contained 0x0F0A) ∧
    (s.m.ld.active = false → exec .hostCompletionTimeout s = .next s) ∧
    (s.unfaulted → Answers .safeWatchdog s fun t => t.contained 0x0F0B) ∧
    (s.unfaulted → s.m.reg.parityOk = false → Answers .parityScan s fun t => t.contained 0x0F08) ∧
    (s.m.reg.parityOk = true → exec .parityScan s = .next s) ∧
    (∀ k, s.unfaulted → k = 0 ∨ (4 ≤ k ∧ k < 10) → Answers (.clockLoss k) s fun t => t.contained 0x0F0C ∧ k ∈ t.m.pw.clkLost) ∧
    (s.unfaulted → s.m.pw.perst = false → Answers (.clockLoss 1) s fun t => t.contained 0x0F0C ∧ t.m.pw.link = 0) ∧
    (s.m.pw.perst = true → exec (.clockLoss 1) s = .next s) ∧
    (∀ x, x < 2 → s.unfaulted → s.m.reg.parityOk = true → s.m.erefNeeded x = true → Answers (.clockLoss (2 + x)) s fun t => t.contained 0x0F0C) ∧
    (∀ x, x < 2 → s.m.erefNeeded x = false → exec (.clockLoss (2 + x)) s = .next s)

/-- FLT commands (R414, R415): CLEAR drops the record and is ignored while contained; INJECT marks the word of an address in the memory that KIND
names, else it is refused. -/
def Sys2Proof.Claims.FaultCommands : Prop :=
  ∀ (s : State), s.m.hostReach 0 = true → s.m.sleepers = [] → s.m.reg.parityOk = true →
    (s.m.mon.fltState = 0 → Answers .fltClear s fun t => t.m.reg = s.m.reg ∧ t.m.mem = s.m.mem ∧
      t.m.mon = { s.m.mon with was := false, first := 0x3FF * 2 ^ 19, firstAddr := 0, firstTime := 0, fltCount := 0 }) ∧
    (s.m.mon.fltState ≠ 0 → Answers .fltClear s fun t => t.m.mon = s.m.mon ∧ t.m.reg = s.m.reg) ∧
    (∀ v, let a := s.m.rg 0x500084 + 2 ^ 32 * (s.m.rg 0x500088 % 65536)
      (fld v 31 16 = 0x5AFE → injectable (v % 8) a = true → Answers (.fltInject v) s fun t => t.m.reg = s.m.reg ∧ t.m.mem = s.m.mem ∧
        t.m.mon = { s.m.mon with inject := some (v % 8, a / 8 * 8) }) ∧
      (fld v 31 16 ≠ 0x5AFE ∨ injectable (v % 8) a = false → Answers (.fltInject v) s fun t => t.m.mon = s.m.mon ∧
        (t.m.rg 0x500020).testBit 5 = true ∧ (∀ k, k ≠ 0x500020 → t.m.rg k = s.m.rg k)))

/-- Readings (R412, R413, R424, R434): they are stored; a die at 110 degrees or a raised rail outside its limits is contained; a compute die whose
hottest sensor is at the throttle threshold loses a sixteenth of its duty, not below four; the cap's duty falls by one while the power is above it. That a cap
of 0 restores a duty of 16 at once is the model's choice (log entry 67). -/
def Sys2Proof.Claims.SensorReadings : Prop :=
  ∀ (s : State), s.m.ld.phase ≠ 0 → s.m.dies.length = 6 → s.m.reg.parityOk = true →
    (∀ temps : List Nat, temps.length = 51 → (∀ x ∈ temps, x < 4096) →
      (∀ i, i < 48 → s.unfaulted → 440 ≤ nth 0 temps i → Answers (.thermalTick temps) s fun t => t.contained 0x0F0D) ∧
      ((∀ i, i < 48 → nth 0 temps i < 440) → Answers (.thermalTick temps) s fun t => t.m.mon = s.m.mon ∧ t.m.mem = s.m.mem ∧
        (∀ i, i < 51 → tget 0 t.m.pw.temps i = nth 0 temps i) ∧
        (∀ d j, d < 4 → j < 8 → 4 * s.m.rg 0x50006C ≤ nth 0 temps (8 * d + j) → (t.m.die d).duty = max 4 ((s.m.die d).duty - 1)))) ∧
    (∀ (mv ma : List Nat) (r : Nat), mv.length = 11 → ma.length = 11 → r < 11 → s.unfaulted → s.m.railUp r = true →
      10 * nth 0 mv r < (nth (0, 0, 0, 0, 6) rails r).1 ∨ (nth (0, 0, 0, 0, 6) rails r).2.1 < 10 * nth 0 mv r ∨
        (nth (0, 0, 0, 0, 6) rails r).2.2.2.1 < nth 0 ma r → Answers (.railSample mv ma) s fun t => t.contained 0x0F0E) ∧
    (∀ (mv ma : List Nat), mv.length = 11 → ma.length = 11 →
      (∀ r, r < 11 → (nth (0, 0, 0, 0, 6) rails r).1 ≤ 10 * nth 0 mv r ∧ 10 * nth 0 mv r ≤ (nth (0, 0, 0, 0, 6) rails r).2.1 ∧
        nth 0 ma r ≤ (nth (0, 0, 0, 0, 6) rails r).2.2.2.1) → Answers (.railSample mv ma) s fun t => t.m.mon = s.m.mon ∧ t.m.mem = s.m.mem ∧
        ∀ r, r < 11 → tget 0 t.m.pw.railMv r = nth 0 mv r ∧ tget 0 t.m.pw.railMa r = nth 0 ma r) ∧
    (∀ w, w < 65536 → Answers (.powerCapTick w) s fun t => t.m.pw.watts = w ∧ t.m.mem = s.m.mem ∧
      (0 < s.m.pw.cap → s.m.pw.cap < w → t.m.pw.capDuty = max 4 (s.m.pw.capDuty - 1)) ∧ (s.m.pw.cap = 0 → t.m.pw.capDuty = 16))

/-- SMBus replies (R421 to R424): each command answers its bytes; LOAD_STATUS, FAULT_STATUS and ENV_STATUS release ALERT_N for their reason, the last
also clearing; a cap is kept within 600 to 2300 W, 0 for none, and a write with a wrong packet error code is
discarded. The code's polynomial, and its bytes, are presumed (log entry 99). -/
def Sys2Proof.Claims.SmbusReplies : Prop :=
  ∀ (s : State), s.m.ld.phase ≠ 0 →
    let a := 2 * (0x58 + s.m.pw.midPor % 8)
    let reads (c : Instr) (code : Nat) (block : Bool) (l : List Byte) : Prop := exec c s = .next { s with m := { s.m with host := { s.m.host with
      smb := l, smbPec := crc8 ([a, code, a + 1] ++ (if block then [l.length] else []) ++ l.map (·.toNat)) } } }
    (Answers .smbLoadStatus s fun t => t.m.host.smb = natLE 4 s.m.loadStatus ++ natLE 4 s.m.ld.detail ∧ t.m.pw.alert.testBit 0 = false ∧
      t.m.mem = s.m.mem) ∧
    (Answers .smbFaultStatus s fun t => t.m.host.smb.length = 28 ∧ t.m.host.smb.take 4 = natLE 4 (s.m.mon.fltState + 4 * (if s.m.mon.was then 1 else 0)) ∧
      (t.m.host.smb.drop 4).take 4 = natLE 4 s.m.mon.first ∧ t.m.pw.alert.testBit 1 = false ∧ t.m.mon = s.m.mon) ∧
    (Answers .smbEnvStatus s fun t => t.m.host.smb = natLE 1 s.m.pw.env ∧ t.m.pw.env = 0 ∧ t.m.pw.alert.testBit 2 = false) ∧
    (reads .smbIdentity 0x03 true (natLE 4 0x11152 ++ natLE 8 Config.unitId ++ natLE 4 s.m.imageVersion ++ natLE 4 (s.m.glbSec s.nv.floor)) ∧
      reads .smbTemperatures 0x10 true ([0, 1, 2, 3, 4, 5].flatMap (fun u => natLE 2 (s.m.hottest u))) ∧
      reads .smbCoolant 0x11 true ([48, 49, 50].flatMap (fun k => natLE 2 (tget 0 s.m.pw.temps k))) ∧
      reads .smbRails 0x12 true ((List.range 11).flatMap (fun r => natLE 2 (tget 0 s.m.pw.railMv r) ++ natLE 2 (tget 0 s.m.pw.railMa r / 100))) ∧
      reads .smbPower 0x13 false (natLE 2 s.m.pw.watts) ∧ reads .smbPowerCapRead 0x20 false (natLE 2 s.m.pw.cap) ∧
      reads .smbThrottle 0x14 true ([0, 1, 2, 3].flatMap (fun d => natLE 1 (min (s.m.die d).duty s.m.pw.capDuty)))) ∧
    (∀ w : SmbWord, w.v < 65536 →
      let good := crc8 ([a, 0x20] ++ (natLE 2 w.v).map (·.toNat))
      (w.pec = none ∨ w.pec = some good → exec (.smbPowerCapWrite w) s = .next { s with m := { s.m with
        pw := { s.m.pw with cap := if w.v = 0 then 0 else min 2300 (max 600 w.v) } } }) ∧
      (∀ p, w.pec = some p → p ≠ good → exec (.smbPowerCapWrite w) s = .next s))

/-! The statements that join claims. -/

/-- Arithmetic of the S-cores (R118, R123, R124): Tables 5.10 and 5.11. -/
def Obligations.ScalarArithmetic : Prop := Claims.ScalarRegisterOperations ∧ Claims.ScalarImmediateOperations

/-- Program faults of the S-cores (R119, R121, R124, R125, R131, R437): where they arise and what they leave. -/
def Obligations.ProgramFaults : Prop := Claims.ProgramFaultStops ∧ Claims.ScalarProgramFaults ∧ Claims.RecordFaults ∧ Claims.FetchFaults ∧ Claims.IllegalWordStops

/-- Loads and stores through the apertures (R119, R120, R145, R211). -/
def Obligations.ApertureAccesses : Prop := Claims.ApertureLoadReturns ∧ Claims.ApertureStoreWritesItsBytes

/-- Semaphores (R131 to R133): the four instructions and the grant of a wait. -/
def Obligations.Semaphores : Prop := Claims.SemaphoreInstructions ∧ Claims.SemaphoreGrant

/-- RDC and WRC over Table 5.8 (R121). -/
def Obligations.ControlRegisters : Prop := Claims.ControlRegisterReads ∧ Claims.ControlRegisterWrites

/-- FENCE, DONE and LAUNCH (R126, R129, R130, R212). -/
def Obligations.FencesLaunchAndDone : Prop := Claims.FencesAndDone ∧ Claims.LaunchQueuesAList

/-- Channels (R235, R239, R240): placement in the ring, CHOPEN, CHSEND. -/
def Obligations.ChannelOpenAndSend : Prop := Claims.RingPlacementRules ∧ Claims.ChannelOpen ∧ Claims.ChannelSend

/-- Channels (R239, R241, R243): a record becomes visible, CHWAIT, CHACK, CHREL. -/
def Obligations.ChannelReading : Prop := Claims.ChannelRecordVisible ∧ Claims.ChannelWait ∧ Claims.ChannelAcknowledge ∧ Claims.ChannelRelease

/-- The ICP lock and its requests (R356 to R363). -/
def Obligations.IcpLockAndRequests : Prop := Claims.IcpLock ∧ Claims.IcpRequests

/-- Descriptor bursts and the synchronisation descriptors (R126, R200 to R205). -/
def Obligations.DescriptorQueues : Prop := Claims.DescriptorBurst ∧ Claims.SynchronisationDescriptors

/-- Data movement (R200 to R215): starts, completions and their messages. -/
def Obligations.Transfers : Prop := Claims.TransferMovesBytes ∧ Claims.TransferCompletes ∧ Claims.CompletionMessageLayout

/-- Matrix descriptors start and chunks load (R80 to R84, R88, R93). -/
def Obligations.MatrixLoading : Prop := Claims.MatrixDescriptorsStart ∧ Claims.ChunkLoads

/-- Products and passes of the matrix engine (R57 to R61, R84). -/
def Obligations.MatrixProducts : Prop := Claims.CellTakesAProduct ∧ Claims.MatrixPasses

/-- The fix unit drains, and a block is finalised (R62 to R71, R96 to R101). -/
def Obligations.DrainAndFinalise : Prop := Claims.FixUnitDrains ∧ Claims.BlockFinalises

/-- Number formats (R26 to R50): every finite pattern survives decoding and rounding, and record sums are exact. -/
def Obligations.NumberFormats : Prop := Claims.FormatRoundTrip ∧ Claims.RecordSumIsExact

/-- Memory tiles (R138, R145, R149, R21): service, updates and upkeep. -/
def Obligations.MemoryTiles : Prop := Claims.MemoryTileServes ∧ Claims.MemorySideUpdates ∧ Claims.MemoryUpkeep

/-- Tokens travel and steering units fire (R156, R171 to R174). -/
def Obligations.StreamTokens : Prop := Claims.TokenForwards ∧ Claims.SteeringFires

/-- Slides change and commits arrive (R179 to R183, R188 to R191). -/
def Obligations.SlidesAndCommits : Prop := Claims.SlidesChange ∧ Claims.CommitArrives

/-- State blocks of the Groomer (R263, R264, R279): the seal and the master update. -/
def Obligations.GroomerBlocks : Prop := Claims.GroomerMaster ∧ Claims.SealedBlockChecks

/-- Blocks enter the window and leave the write stage (R271, R280, R291 to R293). -/
def Obligations.GroomerWindow : Prop := Claims.GroomerBlockArrives ∧ Claims.GroomerWritesABlock

/-- Go words, check verdicts and digests (R282, R284, R286 to R290). -/
def Obligations.GroomerPhases : Prop := Claims.GroomerGoWord ∧ Claims.GroomerCheckVerdict ∧ Claims.DigestResolves

/-- Ports come up, go down, train and return (R297, R298, R303, R304, R325). -/
def Obligations.ErsanPorts : Prop := Claims.PortComesUp ∧ Claims.PortGoesDown ∧ Claims.PortTrainsAndRestores

/-- Slot moves and the link layer (R299 to R301, R304). -/
def Obligations.ErsanLink : Prop := Claims.SlotMoves ∧ Claims.LinkLayer

/-- Flits for other modules, and a partner in a fatal fault (R302, R305, R325, R326). -/
def Obligations.ErsanForwarding : Prop := Claims.FlitsAreForwarded ∧ Claims.PartnerFault

/-- Requests at the windows of this module (R309, R310). -/
def Obligations.WindowRequests : Prop := Claims.WindowRead ∧ Claims.WindowWrites

/-- Flits of collectives (R317, R319 to R321). -/
def Obligations.CollectiveFlits : Prop := Claims.CollectiveControlFlits ∧ Claims.CollectiveData

/-- Power states of the dies (R18 to R21, R139). -/
def Obligations.DiePowerStates : Prop := Claims.IdleTimers ∧ Claims.PowerEntriesEnd ∧ Claims.DieLeavesDeep

/-- The safelight finds work (R22, R24, R245, R246, R249). -/
def Obligations.SafelightFindsWork : Prop := Claims.SafelightPoll ∧ Claims.ContextEntryRead

/-- Command records and start checks (R222, R225, R248, R250). -/
def Obligations.CommandDispatch : Prop := Claims.CommandRecordRead ∧ Claims.StartChecksEnd

/-- Outcomes of commands (R25, R254 to R257). -/
def Obligations.CommandOutcomes : Prop := Claims.DoneReports ∧ Claims.CommandAborts

/-- Host accesses through BAR2 and the work bitmap (R24, R216, R244, R376 to R378). -/
def Obligations.HostAccesses : Prop := Claims.WorkBitmapWrite ∧ Claims.HostBar2 ∧ Claims.RefusedHostAccess

/-- Register accesses through BAR0, and configuration space (R347, R375, R382 to R385, R392). -/
def Obligations.RegisterAccesses : Prop := Claims.EventRegistersClearOnRead ∧ Claims.RegisterWrites ∧ Claims.RegisterPairs ∧ Claims.ConfigurationSpace

/-- Registers that command, and the vectors of events (R381, R387, R389, R394). -/
def Obligations.CommandRegisters : Prop := Claims.GroomerRegisters ∧ Claims.SafeRegisters ∧ Claims.EventVectors

/-- Meters (R395 to R402). -/
def Obligations.Meters : Prop := Claims.MeterTakeAndConfiguration ∧ Claims.MeterPeriodSample

/-- The load of an image up to its checks (R332 to R339, R344, R348 to R350). -/
def Obligations.ImageLoad : Prop := Claims.LoadHeader ∧ Claims.LoadSegment ∧ Claims.LoadChecks

/-- The start gate, and the supplies (R353, R354, R426). -/
def Obligations.GateAndSupplies : Prop := Claims.StartGate ∧ Claims.HbmReady

/-- The attestation mailbox (R366, R367, R391). -/
def Obligations.Mailbox : Prop := Claims.MailboxCommands ∧ Claims.MailboxLock

/-- Power, straps, sideband lines and the link (R353, R374, R388, R417, R420, R426, R427). -/
def Obligations.PowerAndPins : Prop := Claims.PowerSequence ∧ Claims.SidebandLines

/-- Warm resets, reload and function resets (R291, R345, R374, R430 to R432). -/
def Obligations.Resets : Prop := Claims.WarmResetRequests ∧ Claims.HoldoffEnds ∧ Claims.Reload ∧ Claims.FunctionLevelReset

/-- Fatal faults, their detectors and the FLT commands (R373, R386, R406, R408, R414, R415, R429). -/
def Obligations.FaultsContained : Prop := Claims.FatalFaultContained ∧ Claims.FaultDetectors ∧ Claims.FaultCommands

/-- Sensor readings and SMBus (R412, R413, R421 to R424, R434). -/
def Obligations.SensorsAndSmbus : Prop := Claims.SensorReadings ∧ Claims.SmbusReplies
end

