-- ==== Sys2Proof/Laws/Tables.lean ====
section
/-! SUPPORT. Sparse tables and sparse byte memories: reading after writing, and that every operation keeps the canonical form. -/

namespace Sys2Proof.Machine

/-! Tables. -/

/-- A key set reads back, whatever the table's form. -/
@[simp] theorem tget?_tset_same {α : Type} (t : Tbl α) (i : Nat) (v : α) : tget? (tset t i v) i = some v := by
  induction t with
  | nil => simp [tset, tget?]
  | cons p t ih =>
    obtain ⟨k, w⟩ := p
    unfold tset
    split
    · simp [tget?]
    · split
      · simp [tget?]
      · simp [tget?, *]

/-- Setting a key leaves the others. -/
theorem tget?_tset_other {α : Type} (t : Tbl α) {i j : Nat} (v : α) (h : j ≠ i) : tget? (tset t i v) j = tget? t j := by
  induction t with
  | nil => simp [tset, tget?, h]
  | cons p t ih =>
    obtain ⟨k, w⟩ := p
    unfold tset
    split
    · simp [tget?, h]
    · split
      · subst_vars; simp [tget?, h]
      · simp [tget?, ih]

@[simp] theorem tget_tset_same {α : Type} (d : α) (t : Tbl α) (i : Nat) (v : α) : tget d (tset t i v) i = v := by
  simp [tget]

theorem tget_tset_other {α : Type} (d : α) (t : Tbl α) {i j : Nat} (v : α) (h : j ≠ i) : tget d (tset t i v) j = tget d t j := by
  simp [tget, tget?_tset_other t v h]

/-- Both cases at once. -/
theorem tget_tset {α : Type} (d : α) (t : Tbl α) (i j : Nat) (v : α) : tget d (tset t i v) j = if j = i then v else tget d t j := by
  split
  · subst_vars; simp
  · exact tget_tset_other d t v ‹_›

/-- Setting a key twice keeps the second value. -/
@[simp] theorem tset_tset {α : Type} (t : Tbl α) (i : Nat) (v w : α) : tset (tset t i v) i w = tset t i w := by
  induction t with
  | nil => simp [tset]
  | cons p t ih =>
    obtain ⟨k, x⟩ := p
    by_cases h : i < k
    · simp [tset, h]
    · by_cases h2 : i = k
      · simp [tset, h2]
      · simp [tset, h, h2, ih]

/-- Looking a key up in a table whose values are mapped. -/
theorem tget?_map {α β : Type} (t : Tbl α) (f : Nat → α → β) (i : Nat) :
    tget? (t.map fun p => (p.1, f p.1 p.2)) i = (tget? t i).map (f i) := by
  induction t with
  | nil => rfl
  | cons p t ih =>
    obtain ⟨k, x⟩ := p
    by_cases h : i = k
    · subst h; simp [tget?]
    · simpa [tget?, h] using ih

/-! Lists. -/

@[simp] theorem lset_length {α : Type} (l : List α) (i : Nat) (v : α) : (lset l i v).length = l.length := by
  induction l generalizing i with
  | nil => rfl
  | cons x xs ih => cases i <;> simp [lset, ih]

theorem nth_lset_same {α : Type} (d : α) (l : List α) (i : Nat) (v : α) (h : i < l.length) : nth d (lset l i v) i = v := by
  induction l generalizing i with
  | nil => simp at h
  | cons x xs ih =>
    cases i with
    | zero => rfl
    | succ n => simpa [lset, nth] using ih n (by simpa using h)

theorem nth_lset_other {α : Type} (d : α) (l : List α) {i j : Nat} (v : α) (h : j ≠ i) : nth d (lset l i v) j = nth d l j := by
  induction l generalizing i j with
  | nil => rfl
  | cons x xs ih =>
    cases i with
    | zero => cases j with
      | zero => exact absurd rfl h
      | succ m => rfl
    | succ n => cases j with
      | zero => rfl
      | succ m => simpa [lset, nth] using ih (i := n) (j := m) (by omega)

/-! Memories. -/

/-- A memory in form from a bound on is in form from any lower bound on. -/
theorem mwfFrom_le {d : BitVec 8} {m : Mem} {lo lo' : Nat} (h : mwfFrom d lo m = true) (hl : lo' ≤ lo) : mwfFrom d lo' m = true := by
  cases m with
  | nil => rfl
  | cons p t =>
    obtain ⟨k, v⟩ := p
    simp only [mwfFrom, Bool.and_eq_true, decide_eq_true_eq] at h ⊢
    exact ⟨⟨by omega, h.1.2⟩, h.2⟩

/-- Below the bound every byte is unlisted. -/
theorem mget_below {d : BitVec 8} {m : Mem} {lo a : Nat} (h : mwfFrom d lo m = true) (ha : a < lo) : mget d m a = d := by
  cases m with
  | nil => rfl
  | cons p t =>
    obtain ⟨k, v⟩ := p
    simp only [mwfFrom, Bool.and_eq_true, decide_eq_true_eq] at h
    simp [mget, show a < k by omega]

/-- Writing a byte keeps the form. -/
theorem mwfFrom_mset {d : BitVec 8} {m : Mem} {lo : Nat} (i : Nat) (v : BitVec 8) (h : mwfFrom d lo m = true) (hi : lo ≤ i) :
    mwfFrom d lo (mset d m i v) = true := by
  induction m generalizing lo with
  | nil =>
    unfold mset
    split
    · rfl
    · simp [mwfFrom, *]
  | cons p t ih =>
    obtain ⟨k, w⟩ := p
    simp only [mwfFrom, Bool.and_eq_true, decide_eq_true_eq] at h
    obtain ⟨⟨h1, h2⟩, h3⟩ := h
    unfold mset
    split
    · split
      · simp [mwfFrom, h1, h2, h3]
      · simp only [mwfFrom, Bool.and_eq_true, decide_eq_true_eq]
        exact ⟨⟨hi, ‹_›⟩, ⟨by omega, h2⟩, h3⟩
    · split
      · split
        · exact mwfFrom_le h3 (by omega)
        · subst_vars
          simp only [mwfFrom, Bool.and_eq_true, decide_eq_true_eq]
          exact ⟨⟨hi, ‹_›⟩, h3⟩
      · simp only [mwfFrom, Bool.and_eq_true, decide_eq_true_eq]
        exact ⟨⟨h1, h2⟩, ih h3 (by omega)⟩

/-- Writing a byte keeps the canonical form. -/
theorem mset_wf {d : BitVec 8} {m : Mem} (i : Nat) (v : BitVec 8) (h : Mem.wfD d m = true) : Mem.wfD d (mset d m i v) = true :=
  mwfFrom_mset i v h (Nat.zero_le _)

/-- Writing a byte string keeps the canonical form. -/
theorem mwrite_wf {d : BitVec 8} {m : Mem} (a : Nat) (bs : List (BitVec 8)) (h : Mem.wfD d m = true) : Mem.wfD d (mwrite d m a bs) = true := by
  induction bs generalizing m a with
  | nil => exact h
  | cons b bs ih => exact ih (a + 1) (mset_wf a b h)

/-- Keeping only some cells keeps the canonical form: clearing a range, taking one, and the staged image. -/
theorem mwfFrom_filter {d : BitVec 8} {m : Mem} {lo : Nat} (p : Nat × BitVec 8 → Bool) (h : mwfFrom d lo m = true) :
    mwfFrom d lo (m.filter p) = true := by
  induction m generalizing lo with
  | nil => rfl
  | cons c t ih =>
    obtain ⟨k, v⟩ := c
    simp only [mwfFrom, Bool.and_eq_true, decide_eq_true_eq] at h
    simp only [List.filter]
    split
    · simp only [mwfFrom, Bool.and_eq_true, decide_eq_true_eq]
      exact ⟨h.1, ih h.2⟩
    · exact ih (mwfFrom_le h.2 (by omega))

/-- Clearing a range keeps the canonical form. -/
theorem mclear_wf {d : BitVec 8} {m : Mem} (a n : Nat) (h : Mem.wfD d m = true) : Mem.wfD d (mclear m a n) = true := mwfFrom_filter _ h

/-- Taking a range keeps the canonical form. -/
theorem mrange_wf {d : BitVec 8} {m : Mem} (a n : Nat) (h : Mem.wfD d m = true) : Mem.wfD d (mrange m a n) = true := mwfFrom_filter _ h

/-- A written byte reads back. -/
theorem mget_mset_same {d : BitVec 8} {m : Mem} {lo : Nat} (i : Nat) (v : BitVec 8) (h : mwfFrom d lo m = true) :
    mget d (mset d m i v) i = v := by
  induction m generalizing lo with
  | nil =>
    unfold mset
    split
    · simp [mget, *]
    · simp [mget]
  | cons p t ih =>
    obtain ⟨k, w⟩ := p
    simp only [mwfFrom, Bool.and_eq_true, decide_eq_true_eq] at h
    obtain ⟨-, h3⟩ := h
    unfold mset
    split
    · split
      · simp [mget, *]
      · simp [mget]
    · split
      · subst_vars
        split
        · rw [mget_below h3 (by omega), ‹v = d›]
        · simp [mget]
      · simp [mget, *, ih h3]

/-- Writing a byte leaves every other byte. -/
theorem mget_mset_other {d : BitVec 8} {m : Mem} {lo i j : Nat} (v : BitVec 8) (h : mwfFrom d lo m = true) (hj : j ≠ i) :
    mget d (mset d m i v) j = mget d m j := by
  induction m generalizing lo with
  | nil =>
    unfold mset
    split
    · rfl
    · simp [mget, hj]
  | cons p t ih =>
    obtain ⟨k, w⟩ := p
    simp only [mwfFrom, Bool.and_eq_true, decide_eq_true_eq] at h
    obtain ⟨-, h3⟩ := h
    unfold mset
    split
    · split
      · rfl
      · by_cases hji : j < i
        · simp [mget, hji, show j < k by omega]
        · simp [mget, hji, hj]
    · split
      · subst_vars
        split
        · by_cases hjk : j < k
          · rw [mget_below h3 (by omega)]; simp [mget, hjk]
          · simp [mget, hjk, hj]
        · simp [mget, hj]
      · simp only [mget]; rw [ih h3]

/-- Writing a byte string leaves every byte outside it. -/
theorem mget_mwrite_other {d : BitVec 8} {m : Mem} {a j : Nat} (bs : List (BitVec 8)) (h : Mem.wfD d m = true)
    (hj : j < a ∨ a + bs.length ≤ j) : mget d (mwrite d m a bs) j = mget d m j := by
  induction bs generalizing m a with
  | nil => rfl
  | cons b bs ih =>
    simp only [List.length_cons] at hj
    rw [mwrite, ih (mset_wf a b h) (by omega), mget_mset_other b h (by omega)]

/-- A byte of a written string reads back. -/
theorem mget_mwrite_in {d : BitVec 8} {m : Mem} {a k : Nat} (bs : List (BitVec 8)) (h : Mem.wfD d m = true) (hk : k < bs.length) :
    mget d (mwrite d m a bs) (a + k) = bs[k] := by
  induction bs generalizing m a k with
  | nil => simp at hk
  | cons b bs ih =>
    cases k with
    | zero =>
      rw [mwrite, mget_mwrite_other bs (mset_wf a b h) (by omega)]
      exact mget_mset_same a b h
    | succ k =>
      have := ih (m := mset d m a b) (a := a + 1) (k := k) (mset_wf a b h) (by simpa using hk)
      rw [mwrite, show a + (k + 1) = a + 1 + k by omega, this]; rfl

/-- A cleared byte reads the default; a byte outside the range is left. -/
theorem mget_filter {d : BitVec 8} {m : Mem} {lo : Nat} (p : Nat → Bool) (h : mwfFrom d lo m = true) (j : Nat) :
    mget d (m.filter (fun c => p c.1)) j = if p j then mget d m j else d := by
  induction m generalizing lo with
  | nil => simp [mget]
  | cons c t ih =>
    obtain ⟨k, v⟩ := c
    simp only [mwfFrom, Bool.and_eq_true, decide_eq_true_eq] at h
    have h3 := h.2
    simp only [List.filter]
    cases hp : p k with
    | true =>
      simp only [mget]
      by_cases h1 : j < k
      · simp [h1]
      · by_cases h2 : j = k
        · simp [h2, hp]
        · simp [h1, h2, ih h3]
    | false =>
      simp only [mget]
      rw [ih h3]
      by_cases h1 : j < k
      · simp [h1, mget_below h3 (show j < k + 1 by omega)]
      · by_cases h2 : j = k
        · simp [h2, hp]
        · simp [h1, h2]

/-- Clearing a range: what its bytes and the others read. -/
theorem mget_mclear {d : BitVec 8} {m : Mem} (a n j : Nat) (h : Mem.wfD d m = true) :
    mget d (mclear m a n) j = if j < a ∨ a + n ≤ j then mget d m j else d := by
  have := mget_filter (fun c => decide (c < a) || decide (a + n ≤ c)) h j
  simpa [mclear] using this

end Sys2Proof.Machine
end

