-- ==== Sys2Proof/Laws/State.lean ====
section
/-! SUPPORT. One lemma per field per update of the state, and what an accessor reads after an update. -/

namespace Sys2Proof.Machine

/-! A command's effect on the module alone. -/

@[simp] theorem State.on_m (s : State) (f : Mod → Mod) : (s.on f).m = f s.m := rfl
@[simp] theorem State.on_nv (s : State) (f : Mod → Mod) : (s.on f).nv = s.nv := rfl
@[simp] theorem State.on_pending (s : State) (f : Mod → Mod) : (s.on f).pending = s.pending := rfl
@[simp] theorem State.putSc_nv (s : State) (n : Nat) (c : SCore) : (s.putSc n c).nv = s.nv := rfl
@[simp] theorem State.putSc_pending (s : State) (n : Nat) (c : SCore) : (s.putSc n c).pending = s.pending := rfl
@[simp] theorem State.putSc_m (s : State) (n : Nat) (c : SCore) : (s.putSc n c).m = s.m.sput n c := rfl

/-! The fields each update leaves. -/

@[simp] theorem Mod.tput_time (m : Mod) (i : Nat) (x : Tile) : (m.tput i x).time = m.time := rfl
@[simp] theorem Mod.tput_fresh (m : Mod) (i : Nat) (x : Tile) : (m.tput i x).fresh = m.fresh := rfl
@[simp] theorem Mod.tput_pw (m : Mod) (i : Nat) (x : Tile) : (m.tput i x).pw = m.pw := rfl
@[simp] theorem Mod.tput_dies (m : Mod) (i : Nat) (x : Tile) : (m.tput i x).dies = m.dies := rfl
@[simp] theorem Mod.tput_reg (m : Mod) (i : Nat) (x : Tile) : (m.tput i x).reg = m.reg := rfl
@[simp] theorem Mod.tput_host (m : Mod) (i : Nat) (x : Tile) : (m.tput i x).host = m.host := rfl
@[simp] theorem Mod.tput_ld (m : Mod) (i : Nat) (x : Tile) : (m.tput i x).ld = m.ld := rfl
@[simp] theorem Mod.tput_img (m : Mod) (i : Nat) (x : Tile) : (m.tput i x).img = m.img := rfl
@[simp] theorem Mod.tput_mbox (m : Mod) (i : Nat) (x : Tile) : (m.tput i x).mbox = m.mbox := rfl
@[simp] theorem Mod.tput_mem (m : Mod) (i : Nat) (x : Tile) : (m.tput i x).mem = m.mem := rfl
@[simp] theorem Mod.tput_hmem (m : Mod) (i : Nat) (x : Tile) : (m.tput i x).hmem = m.hmem := rfl
@[simp] theorem Mod.tput_upd (m : Mod) (i : Nat) (x : Tile) : (m.tput i x).upd = m.upd := rfl
@[simp] theorem Mod.tput_far (m : Mod) (i : Nat) (x : Tile) : (m.tput i x).far = m.far := rfl
@[simp] theorem Mod.tput_parked (m : Mod) (i : Nat) (x : Tile) : (m.tput i x).parked = m.parked := rfl
@[simp] theorem Mod.tput_sleepers (m : Mod) (i : Nat) (x : Tile) : (m.tput i x).sleepers = m.sleepers := rfl
@[simp] theorem Mod.tput_sc (m : Mod) (i : Nat) (x : Tile) : (m.tput i x).sc = m.sc := rfl
@[simp] theorem Mod.tput_chan (m : Mod) (i : Nat) (x : Tile) : (m.tput i x).chan = m.chan := rfl
@[simp] theorem Mod.tput_chanFree (m : Mod) (i : Nat) (x : Tile) : (m.tput i x).chanFree = m.chanFree := rfl
@[simp] theorem Mod.tput_msgs (m : Mod) (i : Nat) (x : Tile) : (m.tput i x).msgs = m.msgs := rfl
@[simp] theorem Mod.tput_safe (m : Mod) (i : Nat) (x : Tile) : (m.tput i x).safe = m.safe := rfl
@[simp] theorem Mod.tput_icp (m : Mod) (i : Nat) (x : Tile) : (m.tput i x).icp = m.icp := rfl
@[simp] theorem Mod.tput_grm (m : Mod) (i : Nat) (x : Tile) : (m.tput i x).grm = m.grm := rfl
@[simp] theorem Mod.tput_ers (m : Mod) (i : Nat) (x : Tile) : (m.tput i x).ers = m.ers := rfl
@[simp] theorem Mod.tput_mon (m : Mod) (i : Nat) (x : Tile) : (m.tput i x).mon = m.mon := rfl

@[simp] theorem Mod.cxput_time (m : Mod) (c : Nat) (x : Ctx) : (m.cxput c x).time = m.time := rfl
@[simp] theorem Mod.cxput_fresh (m : Mod) (c : Nat) (x : Ctx) : (m.cxput c x).fresh = m.fresh := rfl
@[simp] theorem Mod.cxput_pw (m : Mod) (c : Nat) (x : Ctx) : (m.cxput c x).pw = m.pw := rfl
@[simp] theorem Mod.cxput_dies (m : Mod) (c : Nat) (x : Ctx) : (m.cxput c x).dies = m.dies := rfl
@[simp] theorem Mod.cxput_reg (m : Mod) (c : Nat) (x : Ctx) : (m.cxput c x).reg = m.reg := rfl
@[simp] theorem Mod.cxput_host (m : Mod) (c : Nat) (x : Ctx) : (m.cxput c x).host = m.host := rfl
@[simp] theorem Mod.cxput_ld (m : Mod) (c : Nat) (x : Ctx) : (m.cxput c x).ld = m.ld := rfl
@[simp] theorem Mod.cxput_img (m : Mod) (c : Nat) (x : Ctx) : (m.cxput c x).img = m.img := rfl
@[simp] theorem Mod.cxput_mbox (m : Mod) (c : Nat) (x : Ctx) : (m.cxput c x).mbox = m.mbox := rfl
@[simp] theorem Mod.cxput_mem (m : Mod) (c : Nat) (x : Ctx) : (m.cxput c x).mem = m.mem := rfl
@[simp] theorem Mod.cxput_hmem (m : Mod) (c : Nat) (x : Ctx) : (m.cxput c x).hmem = m.hmem := rfl
@[simp] theorem Mod.cxput_tile (m : Mod) (c : Nat) (x : Ctx) : (m.cxput c x).tile = m.tile := rfl
@[simp] theorem Mod.cxput_upd (m : Mod) (c : Nat) (x : Ctx) : (m.cxput c x).upd = m.upd := rfl
@[simp] theorem Mod.cxput_far (m : Mod) (c : Nat) (x : Ctx) : (m.cxput c x).far = m.far := rfl
@[simp] theorem Mod.cxput_parked (m : Mod) (c : Nat) (x : Ctx) : (m.cxput c x).parked = m.parked := rfl
@[simp] theorem Mod.cxput_sleepers (m : Mod) (c : Nat) (x : Ctx) : (m.cxput c x).sleepers = m.sleepers := rfl
@[simp] theorem Mod.cxput_sc (m : Mod) (c : Nat) (x : Ctx) : (m.cxput c x).sc = m.sc := rfl
@[simp] theorem Mod.cxput_chan (m : Mod) (c : Nat) (x : Ctx) : (m.cxput c x).chan = m.chan := rfl
@[simp] theorem Mod.cxput_chanFree (m : Mod) (c : Nat) (x : Ctx) : (m.cxput c x).chanFree = m.chanFree := rfl
@[simp] theorem Mod.cxput_msgs (m : Mod) (c : Nat) (x : Ctx) : (m.cxput c x).msgs = m.msgs := rfl
@[simp] theorem Mod.cxput_icp (m : Mod) (c : Nat) (x : Ctx) : (m.cxput c x).icp = m.icp := rfl
@[simp] theorem Mod.cxput_grm (m : Mod) (c : Nat) (x : Ctx) : (m.cxput c x).grm = m.grm := rfl
@[simp] theorem Mod.cxput_ers (m : Mod) (c : Nat) (x : Ctx) : (m.cxput c x).ers = m.ers := rfl
@[simp] theorem Mod.cxput_mon (m : Mod) (c : Nat) (x : Ctx) : (m.cxput c x).mon = m.mon := rfl

@[simp] theorem Mod.sput_time (m : Mod) (n : Nat) (x : SCore) : (m.sput n x).time = m.time := rfl
@[simp] theorem Mod.sput_fresh (m : Mod) (n : Nat) (x : SCore) : (m.sput n x).fresh = m.fresh := rfl
@[simp] theorem Mod.sput_pw (m : Mod) (n : Nat) (x : SCore) : (m.sput n x).pw = m.pw := rfl
@[simp] theorem Mod.sput_dies (m : Mod) (n : Nat) (x : SCore) : (m.sput n x).dies = m.dies := rfl
@[simp] theorem Mod.sput_reg (m : Mod) (n : Nat) (x : SCore) : (m.sput n x).reg = m.reg := rfl
@[simp] theorem Mod.sput_host (m : Mod) (n : Nat) (x : SCore) : (m.sput n x).host = m.host := rfl
@[simp] theorem Mod.sput_ld (m : Mod) (n : Nat) (x : SCore) : (m.sput n x).ld = m.ld := rfl
@[simp] theorem Mod.sput_img (m : Mod) (n : Nat) (x : SCore) : (m.sput n x).img = m.img := rfl
@[simp] theorem Mod.sput_mbox (m : Mod) (n : Nat) (x : SCore) : (m.sput n x).mbox = m.mbox := rfl
@[simp] theorem Mod.sput_mem (m : Mod) (n : Nat) (x : SCore) : (m.sput n x).mem = m.mem := rfl
@[simp] theorem Mod.sput_hmem (m : Mod) (n : Nat) (x : SCore) : (m.sput n x).hmem = m.hmem := rfl
@[simp] theorem Mod.sput_tile (m : Mod) (n : Nat) (x : SCore) : (m.sput n x).tile = m.tile := rfl
@[simp] theorem Mod.sput_upd (m : Mod) (n : Nat) (x : SCore) : (m.sput n x).upd = m.upd := rfl
@[simp] theorem Mod.sput_far (m : Mod) (n : Nat) (x : SCore) : (m.sput n x).far = m.far := rfl
@[simp] theorem Mod.sput_parked (m : Mod) (n : Nat) (x : SCore) : (m.sput n x).parked = m.parked := rfl
@[simp] theorem Mod.sput_sleepers (m : Mod) (n : Nat) (x : SCore) : (m.sput n x).sleepers = m.sleepers := rfl
@[simp] theorem Mod.sput_chan (m : Mod) (n : Nat) (x : SCore) : (m.sput n x).chan = m.chan := rfl
@[simp] theorem Mod.sput_chanFree (m : Mod) (n : Nat) (x : SCore) : (m.sput n x).chanFree = m.chanFree := rfl
@[simp] theorem Mod.sput_msgs (m : Mod) (n : Nat) (x : SCore) : (m.sput n x).msgs = m.msgs := rfl
@[simp] theorem Mod.sput_safe (m : Mod) (n : Nat) (x : SCore) : (m.sput n x).safe = m.safe := rfl
@[simp] theorem Mod.sput_icp (m : Mod) (n : Nat) (x : SCore) : (m.sput n x).icp = m.icp := rfl
@[simp] theorem Mod.sput_grm (m : Mod) (n : Nat) (x : SCore) : (m.sput n x).grm = m.grm := rfl
@[simp] theorem Mod.sput_ers (m : Mod) (n : Nat) (x : SCore) : (m.sput n x).ers = m.ers := rfl
@[simp] theorem Mod.sput_mon (m : Mod) (n : Nat) (x : SCore) : (m.sput n x).mon = m.mon := rfl

@[simp] theorem Mod.dput_time (m : Mod) (d : Nat) (x : Die) : (m.dput d x).time = m.time := rfl
@[simp] theorem Mod.dput_fresh (m : Mod) (d : Nat) (x : Die) : (m.dput d x).fresh = m.fresh := rfl
@[simp] theorem Mod.dput_pw (m : Mod) (d : Nat) (x : Die) : (m.dput d x).pw = m.pw := rfl
@[simp] theorem Mod.dput_reg (m : Mod) (d : Nat) (x : Die) : (m.dput d x).reg = m.reg := rfl
@[simp] theorem Mod.dput_host (m : Mod) (d : Nat) (x : Die) : (m.dput d x).host = m.host := rfl
@[simp] theorem Mod.dput_ld (m : Mod) (d : Nat) (x : Die) : (m.dput d x).ld = m.ld := rfl
@[simp] theorem Mod.dput_img (m : Mod) (d : Nat) (x : Die) : (m.dput d x).img = m.img := rfl
@[simp] theorem Mod.dput_mbox (m : Mod) (d : Nat) (x : Die) : (m.dput d x).mbox = m.mbox := rfl
@[simp] theorem Mod.dput_mem (m : Mod) (d : Nat) (x : Die) : (m.dput d x).mem = m.mem := rfl
@[simp] theorem Mod.dput_hmem (m : Mod) (d : Nat) (x : Die) : (m.dput d x).hmem = m.hmem := rfl
@[simp] theorem Mod.dput_tile (m : Mod) (d : Nat) (x : Die) : (m.dput d x).tile = m.tile := rfl
@[simp] theorem Mod.dput_upd (m : Mod) (d : Nat) (x : Die) : (m.dput d x).upd = m.upd := rfl
@[simp] theorem Mod.dput_far (m : Mod) (d : Nat) (x : Die) : (m.dput d x).far = m.far := rfl
@[simp] theorem Mod.dput_parked (m : Mod) (d : Nat) (x : Die) : (m.dput d x).parked = m.parked := rfl
@[simp] theorem Mod.dput_sleepers (m : Mod) (d : Nat) (x : Die) : (m.dput d x).sleepers = m.sleepers := rfl
@[simp] theorem Mod.dput_sc (m : Mod) (d : Nat) (x : Die) : (m.dput d x).sc = m.sc := rfl
@[simp] theorem Mod.dput_chan (m : Mod) (d : Nat) (x : Die) : (m.dput d x).chan = m.chan := rfl
@[simp] theorem Mod.dput_chanFree (m : Mod) (d : Nat) (x : Die) : (m.dput d x).chanFree = m.chanFree := rfl
@[simp] theorem Mod.dput_msgs (m : Mod) (d : Nat) (x : Die) : (m.dput d x).msgs = m.msgs := rfl
@[simp] theorem Mod.dput_safe (m : Mod) (d : Nat) (x : Die) : (m.dput d x).safe = m.safe := rfl
@[simp] theorem Mod.dput_icp (m : Mod) (d : Nat) (x : Die) : (m.dput d x).icp = m.icp := rfl
@[simp] theorem Mod.dput_grm (m : Mod) (d : Nat) (x : Die) : (m.dput d x).grm = m.grm := rfl
@[simp] theorem Mod.dput_ers (m : Mod) (d : Nat) (x : Die) : (m.dput d x).ers = m.ers := rfl
@[simp] theorem Mod.dput_mon (m : Mod) (d : Nat) (x : Die) : (m.dput d x).mon = m.mon := rfl

@[simp] theorem Mod.gput_time (m : Mod) (d : Nat) (x : Groomer) : (m.gput d x).time = m.time := rfl
@[simp] theorem Mod.gput_fresh (m : Mod) (d : Nat) (x : Groomer) : (m.gput d x).fresh = m.fresh := rfl
@[simp] theorem Mod.gput_pw (m : Mod) (d : Nat) (x : Groomer) : (m.gput d x).pw = m.pw := rfl
@[simp] theorem Mod.gput_dies (m : Mod) (d : Nat) (x : Groomer) : (m.gput d x).dies = m.dies := rfl
@[simp] theorem Mod.gput_reg (m : Mod) (d : Nat) (x : Groomer) : (m.gput d x).reg = m.reg := rfl
@[simp] theorem Mod.gput_host (m : Mod) (d : Nat) (x : Groomer) : (m.gput d x).host = m.host := rfl
@[simp] theorem Mod.gput_ld (m : Mod) (d : Nat) (x : Groomer) : (m.gput d x).ld = m.ld := rfl
@[simp] theorem Mod.gput_img (m : Mod) (d : Nat) (x : Groomer) : (m.gput d x).img = m.img := rfl
@[simp] theorem Mod.gput_mbox (m : Mod) (d : Nat) (x : Groomer) : (m.gput d x).mbox = m.mbox := rfl
@[simp] theorem Mod.gput_mem (m : Mod) (d : Nat) (x : Groomer) : (m.gput d x).mem = m.mem := rfl
@[simp] theorem Mod.gput_hmem (m : Mod) (d : Nat) (x : Groomer) : (m.gput d x).hmem = m.hmem := rfl
@[simp] theorem Mod.gput_tile (m : Mod) (d : Nat) (x : Groomer) : (m.gput d x).tile = m.tile := rfl
@[simp] theorem Mod.gput_upd (m : Mod) (d : Nat) (x : Groomer) : (m.gput d x).upd = m.upd := rfl
@[simp] theorem Mod.gput_far (m : Mod) (d : Nat) (x : Groomer) : (m.gput d x).far = m.far := rfl
@[simp] theorem Mod.gput_parked (m : Mod) (d : Nat) (x : Groomer) : (m.gput d x).parked = m.parked := rfl
@[simp] theorem Mod.gput_sleepers (m : Mod) (d : Nat) (x : Groomer) : (m.gput d x).sleepers = m.sleepers := rfl
@[simp] theorem Mod.gput_sc (m : Mod) (d : Nat) (x : Groomer) : (m.gput d x).sc = m.sc := rfl
@[simp] theorem Mod.gput_chan (m : Mod) (d : Nat) (x : Groomer) : (m.gput d x).chan = m.chan := rfl
@[simp] theorem Mod.gput_chanFree (m : Mod) (d : Nat) (x : Groomer) : (m.gput d x).chanFree = m.chanFree := rfl
@[simp] theorem Mod.gput_msgs (m : Mod) (d : Nat) (x : Groomer) : (m.gput d x).msgs = m.msgs := rfl
@[simp] theorem Mod.gput_safe (m : Mod) (d : Nat) (x : Groomer) : (m.gput d x).safe = m.safe := rfl
@[simp] theorem Mod.gput_icp (m : Mod) (d : Nat) (x : Groomer) : (m.gput d x).icp = m.icp := rfl
@[simp] theorem Mod.gput_ers (m : Mod) (d : Nat) (x : Groomer) : (m.gput d x).ers = m.ers := rfl
@[simp] theorem Mod.gput_mon (m : Mod) (d : Nat) (x : Groomer) : (m.gput d x).mon = m.mon := rfl

@[simp] theorem Mod.pput_time (m : Mod) (p : Nat) (x : Port) : (m.pput p x).time = m.time := rfl
@[simp] theorem Mod.pput_fresh (m : Mod) (p : Nat) (x : Port) : (m.pput p x).fresh = m.fresh := rfl
@[simp] theorem Mod.pput_pw (m : Mod) (p : Nat) (x : Port) : (m.pput p x).pw = m.pw := rfl
@[simp] theorem Mod.pput_dies (m : Mod) (p : Nat) (x : Port) : (m.pput p x).dies = m.dies := rfl
@[simp] theorem Mod.pput_reg (m : Mod) (p : Nat) (x : Port) : (m.pput p x).reg = m.reg := rfl
@[simp] theorem Mod.pput_host (m : Mod) (p : Nat) (x : Port) : (m.pput p x).host = m.host := rfl
@[simp] theorem Mod.pput_ld (m : Mod) (p : Nat) (x : Port) : (m.pput p x).ld = m.ld := rfl
@[simp] theorem Mod.pput_img (m : Mod) (p : Nat) (x : Port) : (m.pput p x).img = m.img := rfl
@[simp] theorem Mod.pput_mbox (m : Mod) (p : Nat) (x : Port) : (m.pput p x).mbox = m.mbox := rfl
@[simp] theorem Mod.pput_mem (m : Mod) (p : Nat) (x : Port) : (m.pput p x).mem = m.mem := rfl
@[simp] theorem Mod.pput_hmem (m : Mod) (p : Nat) (x : Port) : (m.pput p x).hmem = m.hmem := rfl
@[simp] theorem Mod.pput_tile (m : Mod) (p : Nat) (x : Port) : (m.pput p x).tile = m.tile := rfl
@[simp] theorem Mod.pput_upd (m : Mod) (p : Nat) (x : Port) : (m.pput p x).upd = m.upd := rfl
@[simp] theorem Mod.pput_far (m : Mod) (p : Nat) (x : Port) : (m.pput p x).far = m.far := rfl
@[simp] theorem Mod.pput_parked (m : Mod) (p : Nat) (x : Port) : (m.pput p x).parked = m.parked := rfl
@[simp] theorem Mod.pput_sleepers (m : Mod) (p : Nat) (x : Port) : (m.pput p x).sleepers = m.sleepers := rfl
@[simp] theorem Mod.pput_sc (m : Mod) (p : Nat) (x : Port) : (m.pput p x).sc = m.sc := rfl
@[simp] theorem Mod.pput_chan (m : Mod) (p : Nat) (x : Port) : (m.pput p x).chan = m.chan := rfl
@[simp] theorem Mod.pput_chanFree (m : Mod) (p : Nat) (x : Port) : (m.pput p x).chanFree = m.chanFree := rfl
@[simp] theorem Mod.pput_msgs (m : Mod) (p : Nat) (x : Port) : (m.pput p x).msgs = m.msgs := rfl
@[simp] theorem Mod.pput_safe (m : Mod) (p : Nat) (x : Port) : (m.pput p x).safe = m.safe := rfl
@[simp] theorem Mod.pput_icp (m : Mod) (p : Nat) (x : Port) : (m.pput p x).icp = m.icp := rfl
@[simp] theorem Mod.pput_grm (m : Mod) (p : Nat) (x : Port) : (m.pput p x).grm = m.grm := rfl
@[simp] theorem Mod.pput_mon (m : Mod) (p : Nat) (x : Port) : (m.pput p x).mon = m.mon := rfl

@[simp] theorem Mod.rput_time (m : Mod) (off v : Nat) : (m.rput off v).time = m.time := rfl
@[simp] theorem Mod.rput_fresh (m : Mod) (off v : Nat) : (m.rput off v).fresh = m.fresh := rfl
@[simp] theorem Mod.rput_pw (m : Mod) (off v : Nat) : (m.rput off v).pw = m.pw := rfl
@[simp] theorem Mod.rput_dies (m : Mod) (off v : Nat) : (m.rput off v).dies = m.dies := rfl
@[simp] theorem Mod.rput_host (m : Mod) (off v : Nat) : (m.rput off v).host = m.host := rfl
@[simp] theorem Mod.rput_ld (m : Mod) (off v : Nat) : (m.rput off v).ld = m.ld := rfl
@[simp] theorem Mod.rput_img (m : Mod) (off v : Nat) : (m.rput off v).img = m.img := rfl
@[simp] theorem Mod.rput_mbox (m : Mod) (off v : Nat) : (m.rput off v).mbox = m.mbox := rfl
@[simp] theorem Mod.rput_mem (m : Mod) (off v : Nat) : (m.rput off v).mem = m.mem := rfl
@[simp] theorem Mod.rput_hmem (m : Mod) (off v : Nat) : (m.rput off v).hmem = m.hmem := rfl
@[simp] theorem Mod.rput_tile (m : Mod) (off v : Nat) : (m.rput off v).tile = m.tile := rfl
@[simp] theorem Mod.rput_upd (m : Mod) (off v : Nat) : (m.rput off v).upd = m.upd := rfl
@[simp] theorem Mod.rput_far (m : Mod) (off v : Nat) : (m.rput off v).far = m.far := rfl
@[simp] theorem Mod.rput_parked (m : Mod) (off v : Nat) : (m.rput off v).parked = m.parked := rfl
@[simp] theorem Mod.rput_sleepers (m : Mod) (off v : Nat) : (m.rput off v).sleepers = m.sleepers := rfl
@[simp] theorem Mod.rput_sc (m : Mod) (off v : Nat) : (m.rput off v).sc = m.sc := rfl
@[simp] theorem Mod.rput_chan (m : Mod) (off v : Nat) : (m.rput off v).chan = m.chan := rfl
@[simp] theorem Mod.rput_chanFree (m : Mod) (off v : Nat) : (m.rput off v).chanFree = m.chanFree := rfl
@[simp] theorem Mod.rput_msgs (m : Mod) (off v : Nat) : (m.rput off v).msgs = m.msgs := rfl
@[simp] theorem Mod.rput_safe (m : Mod) (off v : Nat) : (m.rput off v).safe = m.safe := rfl
@[simp] theorem Mod.rput_icp (m : Mod) (off v : Nat) : (m.rput off v).icp = m.icp := rfl
@[simp] theorem Mod.rput_grm (m : Mod) (off v : Nat) : (m.rput off v).grm = m.grm := rfl
@[simp] theorem Mod.rput_ers (m : Mod) (off v : Nat) : (m.rput off v).ers = m.ers := rfl
@[simp] theorem Mod.rput_mon (m : Mod) (off v : Nat) : (m.rput off v).mon = m.mon := rfl

@[simp] theorem Mod.eput_time (m : Mod) (t q : Nat) (x : Eng) : (m.eput t q x).time = m.time := rfl
@[simp] theorem Mod.eput_fresh (m : Mod) (t q : Nat) (x : Eng) : (m.eput t q x).fresh = m.fresh := rfl
@[simp] theorem Mod.eput_pw (m : Mod) (t q : Nat) (x : Eng) : (m.eput t q x).pw = m.pw := rfl
@[simp] theorem Mod.eput_dies (m : Mod) (t q : Nat) (x : Eng) : (m.eput t q x).dies = m.dies := rfl
@[simp] theorem Mod.eput_reg (m : Mod) (t q : Nat) (x : Eng) : (m.eput t q x).reg = m.reg := rfl
@[simp] theorem Mod.eput_host (m : Mod) (t q : Nat) (x : Eng) : (m.eput t q x).host = m.host := rfl
@[simp] theorem Mod.eput_ld (m : Mod) (t q : Nat) (x : Eng) : (m.eput t q x).ld = m.ld := rfl
@[simp] theorem Mod.eput_img (m : Mod) (t q : Nat) (x : Eng) : (m.eput t q x).img = m.img := rfl
@[simp] theorem Mod.eput_mbox (m : Mod) (t q : Nat) (x : Eng) : (m.eput t q x).mbox = m.mbox := rfl
@[simp] theorem Mod.eput_mem (m : Mod) (t q : Nat) (x : Eng) : (m.eput t q x).mem = m.mem := rfl
@[simp] theorem Mod.eput_hmem (m : Mod) (t q : Nat) (x : Eng) : (m.eput t q x).hmem = m.hmem := rfl
@[simp] theorem Mod.eput_upd (m : Mod) (t q : Nat) (x : Eng) : (m.eput t q x).upd = m.upd := rfl
@[simp] theorem Mod.eput_far (m : Mod) (t q : Nat) (x : Eng) : (m.eput t q x).far = m.far := rfl
@[simp] theorem Mod.eput_parked (m : Mod) (t q : Nat) (x : Eng) : (m.eput t q x).parked = m.parked := rfl
@[simp] theorem Mod.eput_sleepers (m : Mod) (t q : Nat) (x : Eng) : (m.eput t q x).sleepers = m.sleepers := rfl
@[simp] theorem Mod.eput_sc (m : Mod) (t q : Nat) (x : Eng) : (m.eput t q x).sc = m.sc := rfl
@[simp] theorem Mod.eput_chan (m : Mod) (t q : Nat) (x : Eng) : (m.eput t q x).chan = m.chan := rfl
@[simp] theorem Mod.eput_chanFree (m : Mod) (t q : Nat) (x : Eng) : (m.eput t q x).chanFree = m.chanFree := rfl
@[simp] theorem Mod.eput_msgs (m : Mod) (t q : Nat) (x : Eng) : (m.eput t q x).msgs = m.msgs := rfl
@[simp] theorem Mod.eput_safe (m : Mod) (t q : Nat) (x : Eng) : (m.eput t q x).safe = m.safe := rfl
@[simp] theorem Mod.eput_icp (m : Mod) (t q : Nat) (x : Eng) : (m.eput t q x).icp = m.icp := rfl
@[simp] theorem Mod.eput_grm (m : Mod) (t q : Nat) (x : Eng) : (m.eput t q x).grm = m.grm := rfl
@[simp] theorem Mod.eput_ers (m : Mod) (t q : Nat) (x : Eng) : (m.eput t q x).ers = m.ers := rfl
@[simp] theorem Mod.eput_mon (m : Mod) (t q : Nat) (x : Eng) : (m.eput t q x).mon = m.mon := rfl

@[simp] theorem Mod.zero_time (m : Mod) (a n : Nat) : (m.zero a n).time = m.time := rfl
@[simp] theorem Mod.zero_fresh (m : Mod) (a n : Nat) : (m.zero a n).fresh = m.fresh := rfl
@[simp] theorem Mod.zero_pw (m : Mod) (a n : Nat) : (m.zero a n).pw = m.pw := rfl
@[simp] theorem Mod.zero_dies (m : Mod) (a n : Nat) : (m.zero a n).dies = m.dies := rfl
@[simp] theorem Mod.zero_reg (m : Mod) (a n : Nat) : (m.zero a n).reg = m.reg := rfl
@[simp] theorem Mod.zero_host (m : Mod) (a n : Nat) : (m.zero a n).host = m.host := rfl
@[simp] theorem Mod.zero_ld (m : Mod) (a n : Nat) : (m.zero a n).ld = m.ld := rfl
@[simp] theorem Mod.zero_img (m : Mod) (a n : Nat) : (m.zero a n).img = m.img := rfl
@[simp] theorem Mod.zero_mbox (m : Mod) (a n : Nat) : (m.zero a n).mbox = m.mbox := rfl
@[simp] theorem Mod.zero_hmem (m : Mod) (a n : Nat) : (m.zero a n).hmem = m.hmem := rfl
@[simp] theorem Mod.zero_tile (m : Mod) (a n : Nat) : (m.zero a n).tile = m.tile := rfl
@[simp] theorem Mod.zero_upd (m : Mod) (a n : Nat) : (m.zero a n).upd = m.upd := rfl
@[simp] theorem Mod.zero_far (m : Mod) (a n : Nat) : (m.zero a n).far = m.far := rfl
@[simp] theorem Mod.zero_parked (m : Mod) (a n : Nat) : (m.zero a n).parked = m.parked := rfl
@[simp] theorem Mod.zero_sleepers (m : Mod) (a n : Nat) : (m.zero a n).sleepers = m.sleepers := rfl
@[simp] theorem Mod.zero_sc (m : Mod) (a n : Nat) : (m.zero a n).sc = m.sc := rfl
@[simp] theorem Mod.zero_chan (m : Mod) (a n : Nat) : (m.zero a n).chan = m.chan := rfl
@[simp] theorem Mod.zero_chanFree (m : Mod) (a n : Nat) : (m.zero a n).chanFree = m.chanFree := rfl
@[simp] theorem Mod.zero_msgs (m : Mod) (a n : Nat) : (m.zero a n).msgs = m.msgs := rfl
@[simp] theorem Mod.zero_safe (m : Mod) (a n : Nat) : (m.zero a n).safe = m.safe := rfl
@[simp] theorem Mod.zero_icp (m : Mod) (a n : Nat) : (m.zero a n).icp = m.icp := rfl
@[simp] theorem Mod.zero_grm (m : Mod) (a n : Nat) : (m.zero a n).grm = m.grm := rfl
@[simp] theorem Mod.zero_ers (m : Mod) (a n : Nat) : (m.zero a n).ers = m.ers := rfl
@[simp] theorem Mod.zero_mon (m : Mod) (a n : Nat) : (m.zero a n).mon = m.mon := rfl

@[simp] theorem Mod.hostWr_time (m : Mod) (fn a : Nat) (bs : List Byte) (r : Bool) : (m.hostWr fn a bs r).time = m.time := rfl
@[simp] theorem Mod.hostWr_fresh (m : Mod) (fn a : Nat) (bs : List Byte) (r : Bool) : (m.hostWr fn a bs r).fresh = m.fresh := rfl
@[simp] theorem Mod.hostWr_pw (m : Mod) (fn a : Nat) (bs : List Byte) (r : Bool) : (m.hostWr fn a bs r).pw = m.pw := rfl
@[simp] theorem Mod.hostWr_dies (m : Mod) (fn a : Nat) (bs : List Byte) (r : Bool) : (m.hostWr fn a bs r).dies = m.dies := rfl
@[simp] theorem Mod.hostWr_reg (m : Mod) (fn a : Nat) (bs : List Byte) (r : Bool) : (m.hostWr fn a bs r).reg = m.reg := rfl
@[simp] theorem Mod.hostWr_ld (m : Mod) (fn a : Nat) (bs : List Byte) (r : Bool) : (m.hostWr fn a bs r).ld = m.ld := rfl
@[simp] theorem Mod.hostWr_img (m : Mod) (fn a : Nat) (bs : List Byte) (r : Bool) : (m.hostWr fn a bs r).img = m.img := rfl
@[simp] theorem Mod.hostWr_mbox (m : Mod) (fn a : Nat) (bs : List Byte) (r : Bool) : (m.hostWr fn a bs r).mbox = m.mbox := rfl
@[simp] theorem Mod.hostWr_mem (m : Mod) (fn a : Nat) (bs : List Byte) (r : Bool) : (m.hostWr fn a bs r).mem = m.mem := rfl
@[simp] theorem Mod.hostWr_tile (m : Mod) (fn a : Nat) (bs : List Byte) (r : Bool) : (m.hostWr fn a bs r).tile = m.tile := rfl
@[simp] theorem Mod.hostWr_upd (m : Mod) (fn a : Nat) (bs : List Byte) (r : Bool) : (m.hostWr fn a bs r).upd = m.upd := rfl
@[simp] theorem Mod.hostWr_far (m : Mod) (fn a : Nat) (bs : List Byte) (r : Bool) : (m.hostWr fn a bs r).far = m.far := rfl
@[simp] theorem Mod.hostWr_parked (m : Mod) (fn a : Nat) (bs : List Byte) (r : Bool) : (m.hostWr fn a bs r).parked = m.parked := rfl
@[simp] theorem Mod.hostWr_sleepers (m : Mod) (fn a : Nat) (bs : List Byte) (r : Bool) : (m.hostWr fn a bs r).sleepers = m.sleepers := rfl
@[simp] theorem Mod.hostWr_sc (m : Mod) (fn a : Nat) (bs : List Byte) (r : Bool) : (m.hostWr fn a bs r).sc = m.sc := rfl
@[simp] theorem Mod.hostWr_chan (m : Mod) (fn a : Nat) (bs : List Byte) (r : Bool) : (m.hostWr fn a bs r).chan = m.chan := rfl
@[simp] theorem Mod.hostWr_chanFree (m : Mod) (fn a : Nat) (bs : List Byte) (r : Bool) : (m.hostWr fn a bs r).chanFree = m.chanFree := rfl
@[simp] theorem Mod.hostWr_msgs (m : Mod) (fn a : Nat) (bs : List Byte) (r : Bool) : (m.hostWr fn a bs r).msgs = m.msgs := rfl
@[simp] theorem Mod.hostWr_safe (m : Mod) (fn a : Nat) (bs : List Byte) (r : Bool) : (m.hostWr fn a bs r).safe = m.safe := rfl
@[simp] theorem Mod.hostWr_icp (m : Mod) (fn a : Nat) (bs : List Byte) (r : Bool) : (m.hostWr fn a bs r).icp = m.icp := rfl
@[simp] theorem Mod.hostWr_grm (m : Mod) (fn a : Nat) (bs : List Byte) (r : Bool) : (m.hostWr fn a bs r).grm = m.grm := rfl
@[simp] theorem Mod.hostWr_ers (m : Mod) (fn a : Nat) (bs : List Byte) (r : Bool) : (m.hostWr fn a bs r).ers = m.ers := rfl
@[simp] theorem Mod.hostWr_mon (m : Mod) (fn a : Nat) (bs : List Byte) (r : Bool) : (m.hostWr fn a bs r).mon = m.mon := rfl

@[simp] theorem Mod.wr_time (m : Mod) (a : Nat) (bs : List Byte) : (m.wr a bs).time = m.time := rfl
@[simp] theorem Mod.wr_fresh (m : Mod) (a : Nat) (bs : List Byte) : (m.wr a bs).fresh = m.fresh := rfl
@[simp] theorem Mod.wr_pw (m : Mod) (a : Nat) (bs : List Byte) : (m.wr a bs).pw = m.pw := rfl
@[simp] theorem Mod.wr_dies (m : Mod) (a : Nat) (bs : List Byte) : (m.wr a bs).dies = m.dies := rfl
@[simp] theorem Mod.wr_reg (m : Mod) (a : Nat) (bs : List Byte) : (m.wr a bs).reg = m.reg := rfl
@[simp] theorem Mod.wr_host (m : Mod) (a : Nat) (bs : List Byte) : (m.wr a bs).host = m.host := rfl
@[simp] theorem Mod.wr_ld (m : Mod) (a : Nat) (bs : List Byte) : (m.wr a bs).ld = m.ld := rfl
@[simp] theorem Mod.wr_img (m : Mod) (a : Nat) (bs : List Byte) : (m.wr a bs).img = m.img := rfl
@[simp] theorem Mod.wr_mbox (m : Mod) (a : Nat) (bs : List Byte) : (m.wr a bs).mbox = m.mbox := rfl
@[simp] theorem Mod.wr_hmem (m : Mod) (a : Nat) (bs : List Byte) : (m.wr a bs).hmem = m.hmem := rfl
@[simp] theorem Mod.wr_tile (m : Mod) (a : Nat) (bs : List Byte) : (m.wr a bs).tile = m.tile := rfl
@[simp] theorem Mod.wr_upd (m : Mod) (a : Nat) (bs : List Byte) : (m.wr a bs).upd = m.upd := rfl
@[simp] theorem Mod.wr_far (m : Mod) (a : Nat) (bs : List Byte) : (m.wr a bs).far = m.far := rfl
@[simp] theorem Mod.wr_parked (m : Mod) (a : Nat) (bs : List Byte) : (m.wr a bs).parked = m.parked := rfl
@[simp] theorem Mod.wr_sleepers (m : Mod) (a : Nat) (bs : List Byte) : (m.wr a bs).sleepers = m.sleepers := rfl
@[simp] theorem Mod.wr_sc (m : Mod) (a : Nat) (bs : List Byte) : (m.wr a bs).sc = m.sc := rfl
@[simp] theorem Mod.wr_chan (m : Mod) (a : Nat) (bs : List Byte) : (m.wr a bs).chan = m.chan := rfl
@[simp] theorem Mod.wr_chanFree (m : Mod) (a : Nat) (bs : List Byte) : (m.wr a bs).chanFree = m.chanFree := rfl
@[simp] theorem Mod.wr_msgs (m : Mod) (a : Nat) (bs : List Byte) : (m.wr a bs).msgs = m.msgs := rfl
@[simp] theorem Mod.wr_safe (m : Mod) (a : Nat) (bs : List Byte) : (m.wr a bs).safe = m.safe := rfl
@[simp] theorem Mod.wr_icp (m : Mod) (a : Nat) (bs : List Byte) : (m.wr a bs).icp = m.icp := rfl
@[simp] theorem Mod.wr_mon (m : Mod) (a : Nat) (bs : List Byte) : (m.wr a bs).mon = m.mon := rfl

@[simp] theorem Mod.notices_time (m : Mod) (a n : Nat) : (m.notices a n).time = m.time := rfl
@[simp] theorem Mod.notices_fresh (m : Mod) (a n : Nat) : (m.notices a n).fresh = m.fresh := rfl
@[simp] theorem Mod.notices_pw (m : Mod) (a n : Nat) : (m.notices a n).pw = m.pw := rfl
@[simp] theorem Mod.notices_dies (m : Mod) (a n : Nat) : (m.notices a n).dies = m.dies := rfl
@[simp] theorem Mod.notices_reg (m : Mod) (a n : Nat) : (m.notices a n).reg = m.reg := rfl
@[simp] theorem Mod.notices_host (m : Mod) (a n : Nat) : (m.notices a n).host = m.host := rfl
@[simp] theorem Mod.notices_ld (m : Mod) (a n : Nat) : (m.notices a n).ld = m.ld := rfl
@[simp] theorem Mod.notices_img (m : Mod) (a n : Nat) : (m.notices a n).img = m.img := rfl
@[simp] theorem Mod.notices_mbox (m : Mod) (a n : Nat) : (m.notices a n).mbox = m.mbox := rfl
@[simp] theorem Mod.notices_mem (m : Mod) (a n : Nat) : (m.notices a n).mem = m.mem := rfl
@[simp] theorem Mod.notices_hmem (m : Mod) (a n : Nat) : (m.notices a n).hmem = m.hmem := rfl
@[simp] theorem Mod.notices_tile (m : Mod) (a n : Nat) : (m.notices a n).tile = m.tile := rfl
@[simp] theorem Mod.notices_upd (m : Mod) (a n : Nat) : (m.notices a n).upd = m.upd := rfl
@[simp] theorem Mod.notices_far (m : Mod) (a n : Nat) : (m.notices a n).far = m.far := rfl
@[simp] theorem Mod.notices_parked (m : Mod) (a n : Nat) : (m.notices a n).parked = m.parked := rfl
@[simp] theorem Mod.notices_sleepers (m : Mod) (a n : Nat) : (m.notices a n).sleepers = m.sleepers := rfl
@[simp] theorem Mod.notices_sc (m : Mod) (a n : Nat) : (m.notices a n).sc = m.sc := rfl
@[simp] theorem Mod.notices_chan (m : Mod) (a n : Nat) : (m.notices a n).chan = m.chan := rfl
@[simp] theorem Mod.notices_chanFree (m : Mod) (a n : Nat) : (m.notices a n).chanFree = m.chanFree := rfl
@[simp] theorem Mod.notices_msgs (m : Mod) (a n : Nat) : (m.notices a n).msgs = m.msgs := rfl
@[simp] theorem Mod.notices_safe (m : Mod) (a n : Nat) : (m.notices a n).safe = m.safe := rfl
@[simp] theorem Mod.notices_icp (m : Mod) (a n : Nat) : (m.notices a n).icp = m.icp := rfl
@[simp] theorem Mod.notices_mon (m : Mod) (a n : Nat) : (m.notices a n).mon = m.mon := rfl

/-! Accessors after updates. -/

theorem Mod.t_tput (m : Mod) (i j : Nat) (x : Tile) : (m.tput i x).t j = if j = i then x else m.t j := tget_tset _ _ _ _ _
theorem Mod.cx_cxput (m : Mod) (i j : Nat) (x : Ctx) : (m.cxput i x).cx j = if j = i then x else m.cx j := tget_tset _ _ _ _ _
theorem Mod.s_sput (m : Mod) (i j : Nat) (x : SCore) : (m.sput i x).s j = if j = i then x else m.s j := tget_tset _ _ _ _ _
theorem Mod.g_gput (m : Mod) (i j : Nat) (x : Groomer) : (m.gput i x).g j = if j = i then x else m.g j := tget_tset _ _ _ _ _
theorem Mod.port_pput (m : Mod) (i j : Nat) (x : Port) : (m.pput i x).port j = if j = i then x else m.port j := tget_tset _ _ _ _ _
@[simp] theorem Mod.t_tput_same (m : Mod) (i : Nat) (x : Tile) : (m.tput i x).t i = x := tget_tset_same _ _ _ _
@[simp] theorem Mod.cx_cxput_same (m : Mod) (i : Nat) (x : Ctx) : (m.cxput i x).cx i = x := tget_tset_same _ _ _ _
@[simp] theorem Mod.s_sput_same (m : Mod) (i : Nat) (x : SCore) : (m.sput i x).s i = x := tget_tset_same _ _ _ _
@[simp] theorem Mod.g_gput_same (m : Mod) (i : Nat) (x : Groomer) : (m.gput i x).g i = x := tget_tset_same _ _ _ _
@[simp] theorem Mod.port_pput_same (m : Mod) (i : Nat) (x : Port) : (m.pput i x).port i = x := tget_tset_same _ _ _ _
@[simp] theorem Mod.e_eput_same (m : Mod) (t q : Nat) (x : Eng) : (m.eput t q x).e t q = x := by
  simp [Mod.e, Mod.eput]
theorem Mod.t_eput (m : Mod) (t q j : Nat) (x : Eng) :
    (m.eput t q x).t j = if j = t then { m.t t with eng := tset (m.t t).eng q x } else m.t j := Mod.t_tput _ _ _ _
theorem Mod.die_dput (m : Mod) {d : Nat} (x : Die) (h : d < m.dies.length) : (m.dput d x).die d = x := nth_lset_same _ _ _ _ h
theorem Mod.die_dput_other (m : Mod) {d e : Nat} (x : Die) (h : e ≠ d) : (m.dput d x).die e = m.die e := nth_lset_other _ _ _ h
@[simp] theorem Mod.tput_tput (m : Mod) (i : Nat) (x y : Tile) : (m.tput i x).tput i y = m.tput i y := by
  simp [Mod.tput]
@[simp] theorem Mod.sput_sput (m : Mod) (n : Nat) (x y : SCore) : (m.sput n x).sput n y = m.sput n y := by
  simp [Mod.sput]
@[simp] theorem Mod.cxput_cxput (m : Mod) (c : Nat) (x y : Ctx) : (m.cxput c x).cxput c y = m.cxput c y := by
  simp [Mod.cxput]

/-- A register stored reads back, cut to 32 bits (R380). -/
@[simp] theorem Mod.rg_rput_same (m : Mod) (off v : Nat) : (m.rput off v).rg off = v % 2 ^ 32 := by
  simp [Mod.rg, Mod.rput, RegFile.get, RegFile.put]
/-- Storing a register leaves the others. -/
theorem Mod.rg_rput_other (m : Mod) {off o : Nat} (v : Nat) (h : o ≠ off) : (m.rput off v).rg o = m.rg o := by
  simp [Mod.rg, Mod.rput, RegFile.get, RegFile.put, tget?_tset_other _ _ h]

/-! Memory through the named operations. -/

/-- A write leaves every byte outside it, keeps the form, and its own bytes read back (R4). -/
theorem Mod.wr_mem (m : Mod) (a : Nat) (bs : List Byte) : (m.wr a bs).mem = mwrite 0 m.mem a bs := rfl
theorem Mod.wr_other (m : Mod) {a j : Nat} (bs : List Byte) (h : Mem.wfD 0 m.mem = true) (hj : j < a ∨ a + bs.length ≤ j) :
    mget 0 (m.wr a bs).mem j = mget 0 m.mem j := mget_mwrite_other bs h hj
theorem Mod.wr_in (m : Mod) {a k : Nat} (bs : List Byte) (h : Mem.wfD 0 m.mem = true) (hk : k < bs.length) :
    mget 0 (m.wr a bs).mem (a + k) = bs[k] := mget_mwrite_in bs h hk
theorem Mod.wr_inv (m : Mod) (a : Nat) (bs : List Byte) (h : m.MemInv) : (m.wr a bs).MemInv := ⟨mwrite_wf _ _ h.1, h.2⟩
theorem Mod.zero_inv (m : Mod) (a n : Nat) (h : m.MemInv) : (m.zero a n).MemInv := ⟨mclear_wf _ _ h.1, h.2⟩
theorem Mod.zero_byte (m : Mod) (a n j : Nat) (h : Mem.wfD 0 m.mem = true) :
    mget 0 (m.zero a n).mem j = if j < a ∨ a + n ≤ j then mget 0 m.mem j else 0 := mget_mclear a n j h
theorem Mod.hostWr_inv (m : Mod) (fn a : Nat) (bs : List Byte) (r : Bool) (h : m.MemInv) : (m.hostWr fn a bs r).MemInv :=
  ⟨h.1, mwrite_wf _ _ h.2⟩

end Sys2Proof.Machine
end

