-- ==== Sys2Proof/Laws/Ops.lean ====
section
/-! SUPPORT. What each shared operation can do: the fields it leaves, and its result where it has one. -/

namespace Sys2Proof.Machine

/-! Changes of a context: runMap, charge and cmdFault touch the safelight's state only. -/

@[simp] theorem Mod.runMap_time (m : Mod) (c : Nat) (g : Run → Run) : (m.runMap c g).time = m.time := by unfold Mod.runMap; split <;> rfl
@[simp] theorem Mod.runMap_fresh (m : Mod) (c : Nat) (g : Run → Run) : (m.runMap c g).fresh = m.fresh := by unfold Mod.runMap; split <;> rfl
@[simp] theorem Mod.runMap_pw (m : Mod) (c : Nat) (g : Run → Run) : (m.runMap c g).pw = m.pw := by unfold Mod.runMap; split <;> rfl
@[simp] theorem Mod.runMap_dies (m : Mod) (c : Nat) (g : Run → Run) : (m.runMap c g).dies = m.dies := by unfold Mod.runMap; split <;> rfl
@[simp] theorem Mod.runMap_reg (m : Mod) (c : Nat) (g : Run → Run) : (m.runMap c g).reg = m.reg := by unfold Mod.runMap; split <;> rfl
@[simp] theorem Mod.runMap_host (m : Mod) (c : Nat) (g : Run → Run) : (m.runMap c g).host = m.host := by unfold Mod.runMap; split <;> rfl
@[simp] theorem Mod.runMap_ld (m : Mod) (c : Nat) (g : Run → Run) : (m.runMap c g).ld = m.ld := by unfold Mod.runMap; split <;> rfl
@[simp] theorem Mod.runMap_img (m : Mod) (c : Nat) (g : Run → Run) : (m.runMap c g).img = m.img := by unfold Mod.runMap; split <;> rfl
@[simp] theorem Mod.runMap_mbox (m : Mod) (c : Nat) (g : Run → Run) : (m.runMap c g).mbox = m.mbox := by unfold Mod.runMap; split <;> rfl
@[simp] theorem Mod.runMap_mem (m : Mod) (c : Nat) (g : Run → Run) : (m.runMap c g).mem = m.mem := by unfold Mod.runMap; split <;> rfl
@[simp] theorem Mod.runMap_hmem (m : Mod) (c : Nat) (g : Run → Run) : (m.runMap c g).hmem = m.hmem := by unfold Mod.runMap; split <;> rfl
@[simp] theorem Mod.runMap_tile (m : Mod) (c : Nat) (g : Run → Run) : (m.runMap c g).tile = m.tile := by unfold Mod.runMap; split <;> rfl
@[simp] theorem Mod.runMap_upd (m : Mod) (c : Nat) (g : Run → Run) : (m.runMap c g).upd = m.upd := by unfold Mod.runMap; split <;> rfl
@[simp] theorem Mod.runMap_far (m : Mod) (c : Nat) (g : Run → Run) : (m.runMap c g).far = m.far := by unfold Mod.runMap; split <;> rfl
@[simp] theorem Mod.runMap_parked (m : Mod) (c : Nat) (g : Run → Run) : (m.runMap c g).parked = m.parked := by unfold Mod.runMap; split <;> rfl
@[simp] theorem Mod.runMap_sleepers (m : Mod) (c : Nat) (g : Run → Run) : (m.runMap c g).sleepers = m.sleepers := by unfold Mod.runMap; split <;> rfl
@[simp] theorem Mod.runMap_sc (m : Mod) (c : Nat) (g : Run → Run) : (m.runMap c g).sc = m.sc := by unfold Mod.runMap; split <;> rfl
@[simp] theorem Mod.runMap_chan (m : Mod) (c : Nat) (g : Run → Run) : (m.runMap c g).chan = m.chan := by unfold Mod.runMap; split <;> rfl
@[simp] theorem Mod.runMap_chanFree (m : Mod) (c : Nat) (g : Run → Run) : (m.runMap c g).chanFree = m.chanFree := by unfold Mod.runMap; split <;> rfl
@[simp] theorem Mod.runMap_msgs (m : Mod) (c : Nat) (g : Run → Run) : (m.runMap c g).msgs = m.msgs := by unfold Mod.runMap; split <;> rfl
@[simp] theorem Mod.runMap_icp (m : Mod) (c : Nat) (g : Run → Run) : (m.runMap c g).icp = m.icp := by unfold Mod.runMap; split <;> rfl
@[simp] theorem Mod.runMap_grm (m : Mod) (c : Nat) (g : Run → Run) : (m.runMap c g).grm = m.grm := by unfold Mod.runMap; split <;> rfl
@[simp] theorem Mod.runMap_ers (m : Mod) (c : Nat) (g : Run → Run) : (m.runMap c g).ers = m.ers := by unfold Mod.runMap; split <;> rfl
@[simp] theorem Mod.runMap_mon (m : Mod) (c : Nat) (g : Run → Run) : (m.runMap c g).mon = m.mon := by unfold Mod.runMap; split <;> rfl

@[simp] theorem Mod.charge_time (m : Mod) (c i n : Nat) : (m.charge c i n).time = m.time := by unfold Mod.charge; split <;> simp
@[simp] theorem Mod.charge_fresh (m : Mod) (c i n : Nat) : (m.charge c i n).fresh = m.fresh := by unfold Mod.charge; split <;> simp
@[simp] theorem Mod.charge_pw (m : Mod) (c i n : Nat) : (m.charge c i n).pw = m.pw := by unfold Mod.charge; split <;> simp
@[simp] theorem Mod.charge_dies (m : Mod) (c i n : Nat) : (m.charge c i n).dies = m.dies := by unfold Mod.charge; split <;> simp
@[simp] theorem Mod.charge_reg (m : Mod) (c i n : Nat) : (m.charge c i n).reg = m.reg := by unfold Mod.charge; split <;> simp
@[simp] theorem Mod.charge_host (m : Mod) (c i n : Nat) : (m.charge c i n).host = m.host := by unfold Mod.charge; split <;> simp
@[simp] theorem Mod.charge_ld (m : Mod) (c i n : Nat) : (m.charge c i n).ld = m.ld := by unfold Mod.charge; split <;> simp
@[simp] theorem Mod.charge_img (m : Mod) (c i n : Nat) : (m.charge c i n).img = m.img := by unfold Mod.charge; split <;> simp
@[simp] theorem Mod.charge_mbox (m : Mod) (c i n : Nat) : (m.charge c i n).mbox = m.mbox := by unfold Mod.charge; split <;> simp
@[simp] theorem Mod.charge_mem (m : Mod) (c i n : Nat) : (m.charge c i n).mem = m.mem := by unfold Mod.charge; split <;> simp
@[simp] theorem Mod.charge_hmem (m : Mod) (c i n : Nat) : (m.charge c i n).hmem = m.hmem := by unfold Mod.charge; split <;> simp
@[simp] theorem Mod.charge_tile (m : Mod) (c i n : Nat) : (m.charge c i n).tile = m.tile := by unfold Mod.charge; split <;> simp
@[simp] theorem Mod.charge_upd (m : Mod) (c i n : Nat) : (m.charge c i n).upd = m.upd := by unfold Mod.charge; split <;> simp
@[simp] theorem Mod.charge_far (m : Mod) (c i n : Nat) : (m.charge c i n).far = m.far := by unfold Mod.charge; split <;> simp
@[simp] theorem Mod.charge_parked (m : Mod) (c i n : Nat) : (m.charge c i n).parked = m.parked := by unfold Mod.charge; split <;> simp
@[simp] theorem Mod.charge_sleepers (m : Mod) (c i n : Nat) : (m.charge c i n).sleepers = m.sleepers := by unfold Mod.charge; split <;> simp
@[simp] theorem Mod.charge_sc (m : Mod) (c i n : Nat) : (m.charge c i n).sc = m.sc := by unfold Mod.charge; split <;> simp
@[simp] theorem Mod.charge_chan (m : Mod) (c i n : Nat) : (m.charge c i n).chan = m.chan := by unfold Mod.charge; split <;> simp
@[simp] theorem Mod.charge_chanFree (m : Mod) (c i n : Nat) : (m.charge c i n).chanFree = m.chanFree := by unfold Mod.charge; split <;> simp
@[simp] theorem Mod.charge_msgs (m : Mod) (c i n : Nat) : (m.charge c i n).msgs = m.msgs := by unfold Mod.charge; split <;> simp
@[simp] theorem Mod.charge_icp (m : Mod) (c i n : Nat) : (m.charge c i n).icp = m.icp := by unfold Mod.charge; split <;> simp
@[simp] theorem Mod.charge_grm (m : Mod) (c i n : Nat) : (m.charge c i n).grm = m.grm := by unfold Mod.charge; split <;> simp
@[simp] theorem Mod.charge_ers (m : Mod) (c i n : Nat) : (m.charge c i n).ers = m.ers := by unfold Mod.charge; split <;> simp
@[simp] theorem Mod.charge_mon (m : Mod) (c i n : Nat) : (m.charge c i n).mon = m.mon := by unfold Mod.charge; split <;> simp

@[simp] theorem Mod.cmdFault_time (m : Mod) (c r d : Nat) : (m.cmdFault c r d).time = m.time := by unfold Mod.cmdFault; (repeat' split) <;> rfl
@[simp] theorem Mod.cmdFault_fresh (m : Mod) (c r d : Nat) : (m.cmdFault c r d).fresh = m.fresh := by unfold Mod.cmdFault; (repeat' split) <;> rfl
@[simp] theorem Mod.cmdFault_pw (m : Mod) (c r d : Nat) : (m.cmdFault c r d).pw = m.pw := by unfold Mod.cmdFault; (repeat' split) <;> rfl
@[simp] theorem Mod.cmdFault_dies (m : Mod) (c r d : Nat) : (m.cmdFault c r d).dies = m.dies := by unfold Mod.cmdFault; (repeat' split) <;> rfl
@[simp] theorem Mod.cmdFault_reg (m : Mod) (c r d : Nat) : (m.cmdFault c r d).reg = m.reg := by unfold Mod.cmdFault; (repeat' split) <;> rfl
@[simp] theorem Mod.cmdFault_host (m : Mod) (c r d : Nat) : (m.cmdFault c r d).host = m.host := by unfold Mod.cmdFault; (repeat' split) <;> rfl
@[simp] theorem Mod.cmdFault_ld (m : Mod) (c r d : Nat) : (m.cmdFault c r d).ld = m.ld := by unfold Mod.cmdFault; (repeat' split) <;> rfl
@[simp] theorem Mod.cmdFault_img (m : Mod) (c r d : Nat) : (m.cmdFault c r d).img = m.img := by unfold Mod.cmdFault; (repeat' split) <;> rfl
@[simp] theorem Mod.cmdFault_mbox (m : Mod) (c r d : Nat) : (m.cmdFault c r d).mbox = m.mbox := by unfold Mod.cmdFault; (repeat' split) <;> rfl
@[simp] theorem Mod.cmdFault_mem (m : Mod) (c r d : Nat) : (m.cmdFault c r d).mem = m.mem := by unfold Mod.cmdFault; (repeat' split) <;> rfl
@[simp] theorem Mod.cmdFault_hmem (m : Mod) (c r d : Nat) : (m.cmdFault c r d).hmem = m.hmem := by unfold Mod.cmdFault; (repeat' split) <;> rfl
@[simp] theorem Mod.cmdFault_tile (m : Mod) (c r d : Nat) : (m.cmdFault c r d).tile = m.tile := by unfold Mod.cmdFault; (repeat' split) <;> rfl
@[simp] theorem Mod.cmdFault_upd (m : Mod) (c r d : Nat) : (m.cmdFault c r d).upd = m.upd := by unfold Mod.cmdFault; (repeat' split) <;> rfl
@[simp] theorem Mod.cmdFault_far (m : Mod) (c r d : Nat) : (m.cmdFault c r d).far = m.far := by unfold Mod.cmdFault; (repeat' split) <;> rfl
@[simp] theorem Mod.cmdFault_parked (m : Mod) (c r d : Nat) : (m.cmdFault c r d).parked = m.parked := by unfold Mod.cmdFault; (repeat' split) <;> rfl
@[simp] theorem Mod.cmdFault_sleepers (m : Mod) (c r d : Nat) : (m.cmdFault c r d).sleepers = m.sleepers := by unfold Mod.cmdFault; (repeat' split) <;> rfl
@[simp] theorem Mod.cmdFault_sc (m : Mod) (c r d : Nat) : (m.cmdFault c r d).sc = m.sc := by unfold Mod.cmdFault; (repeat' split) <;> rfl
@[simp] theorem Mod.cmdFault_chan (m : Mod) (c r d : Nat) : (m.cmdFault c r d).chan = m.chan := by unfold Mod.cmdFault; (repeat' split) <;> rfl
@[simp] theorem Mod.cmdFault_chanFree (m : Mod) (c r d : Nat) : (m.cmdFault c r d).chanFree = m.chanFree := by unfold Mod.cmdFault; (repeat' split) <;> rfl
@[simp] theorem Mod.cmdFault_msgs (m : Mod) (c r d : Nat) : (m.cmdFault c r d).msgs = m.msgs := by unfold Mod.cmdFault; (repeat' split) <;> rfl
@[simp] theorem Mod.cmdFault_icp (m : Mod) (c r d : Nat) : (m.cmdFault c r d).icp = m.icp := by unfold Mod.cmdFault; (repeat' split) <;> rfl
@[simp] theorem Mod.cmdFault_grm (m : Mod) (c r d : Nat) : (m.cmdFault c r d).grm = m.grm := by unfold Mod.cmdFault; (repeat' split) <;> rfl
@[simp] theorem Mod.cmdFault_ers (m : Mod) (c r d : Nat) : (m.cmdFault c r d).ers = m.ers := by unfold Mod.cmdFault; (repeat' split) <;> rfl
@[simp] theorem Mod.cmdFault_mon (m : Mod) (c r d : Nat) : (m.cmdFault c r d).mon = m.mon := by unfold Mod.cmdFault; (repeat' split) <;> rfl

/-! Wakes touch the dies only; an access also starts a gated memory tile (R20, R21). -/

@[simp] theorem Mod.wakeTo_time (m : Mod) (d st : Nat) : (m.wakeTo d st).time = m.time := by unfold Mod.wakeTo; dsimp only; (repeat' split) <;> rfl
@[simp] theorem Mod.wakeTo_fresh (m : Mod) (d st : Nat) : (m.wakeTo d st).fresh = m.fresh := by unfold Mod.wakeTo; dsimp only; (repeat' split) <;> rfl
@[simp] theorem Mod.wakeTo_pw (m : Mod) (d st : Nat) : (m.wakeTo d st).pw = m.pw := by unfold Mod.wakeTo; dsimp only; (repeat' split) <;> rfl
@[simp] theorem Mod.wakeTo_reg (m : Mod) (d st : Nat) : (m.wakeTo d st).reg = m.reg := by unfold Mod.wakeTo; dsimp only; (repeat' split) <;> rfl
@[simp] theorem Mod.wakeTo_host (m : Mod) (d st : Nat) : (m.wakeTo d st).host = m.host := by unfold Mod.wakeTo; dsimp only; (repeat' split) <;> rfl
@[simp] theorem Mod.wakeTo_ld (m : Mod) (d st : Nat) : (m.wakeTo d st).ld = m.ld := by unfold Mod.wakeTo; dsimp only; (repeat' split) <;> rfl
@[simp] theorem Mod.wakeTo_img (m : Mod) (d st : Nat) : (m.wakeTo d st).img = m.img := by unfold Mod.wakeTo; dsimp only; (repeat' split) <;> rfl
@[simp] theorem Mod.wakeTo_mbox (m : Mod) (d st : Nat) : (m.wakeTo d st).mbox = m.mbox := by unfold Mod.wakeTo; dsimp only; (repeat' split) <;> rfl
@[simp] theorem Mod.wakeTo_mem (m : Mod) (d st : Nat) : (m.wakeTo d st).mem = m.mem := by unfold Mod.wakeTo; dsimp only; (repeat' split) <;> rfl
@[simp] theorem Mod.wakeTo_hmem (m : Mod) (d st : Nat) : (m.wakeTo d st).hmem = m.hmem := by unfold Mod.wakeTo; dsimp only; (repeat' split) <;> rfl
@[simp] theorem Mod.wakeTo_tile (m : Mod) (d st : Nat) : (m.wakeTo d st).tile = m.tile := by unfold Mod.wakeTo; dsimp only; (repeat' split) <;> rfl
@[simp] theorem Mod.wakeTo_upd (m : Mod) (d st : Nat) : (m.wakeTo d st).upd = m.upd := by unfold Mod.wakeTo; dsimp only; (repeat' split) <;> rfl
@[simp] theorem Mod.wakeTo_far (m : Mod) (d st : Nat) : (m.wakeTo d st).far = m.far := by unfold Mod.wakeTo; dsimp only; (repeat' split) <;> rfl
@[simp] theorem Mod.wakeTo_parked (m : Mod) (d st : Nat) : (m.wakeTo d st).parked = m.parked := by unfold Mod.wakeTo; dsimp only; (repeat' split) <;> rfl
@[simp] theorem Mod.wakeTo_sleepers (m : Mod) (d st : Nat) : (m.wakeTo d st).sleepers = m.sleepers := by unfold Mod.wakeTo; dsimp only; (repeat' split) <;> rfl
@[simp] theorem Mod.wakeTo_sc (m : Mod) (d st : Nat) : (m.wakeTo d st).sc = m.sc := by unfold Mod.wakeTo; dsimp only; (repeat' split) <;> rfl
@[simp] theorem Mod.wakeTo_chan (m : Mod) (d st : Nat) : (m.wakeTo d st).chan = m.chan := by unfold Mod.wakeTo; dsimp only; (repeat' split) <;> rfl
@[simp] theorem Mod.wakeTo_chanFree (m : Mod) (d st : Nat) : (m.wakeTo d st).chanFree = m.chanFree := by unfold Mod.wakeTo; dsimp only; (repeat' split) <;> rfl
@[simp] theorem Mod.wakeTo_msgs (m : Mod) (d st : Nat) : (m.wakeTo d st).msgs = m.msgs := by unfold Mod.wakeTo; dsimp only; (repeat' split) <;> rfl
@[simp] theorem Mod.wakeTo_safe (m : Mod) (d st : Nat) : (m.wakeTo d st).safe = m.safe := by unfold Mod.wakeTo; dsimp only; (repeat' split) <;> rfl
@[simp] theorem Mod.wakeTo_icp (m : Mod) (d st : Nat) : (m.wakeTo d st).icp = m.icp := by unfold Mod.wakeTo; dsimp only; (repeat' split) <;> rfl
@[simp] theorem Mod.wakeTo_grm (m : Mod) (d st : Nat) : (m.wakeTo d st).grm = m.grm := by unfold Mod.wakeTo; dsimp only; (repeat' split) <;> rfl
@[simp] theorem Mod.wakeTo_ers (m : Mod) (d st : Nat) : (m.wakeTo d st).ers = m.ers := by unfold Mod.wakeTo; dsimp only; (repeat' split) <;> rfl
@[simp] theorem Mod.wakeTo_mon (m : Mod) (d st : Nat) : (m.wakeTo d st).mon = m.mon := by unfold Mod.wakeTo; dsimp only; (repeat' split) <;> rfl

@[simp] theorem Mod.raisePath_time (m : Mod) (u v : Nat) : (m.raisePath u v).time = m.time := by
  unfold Mod.raisePath
  generalize pathDies u v = l
  induction l generalizing m with
  | nil => rfl
  | cons d l ih => rw [List.foldl_cons, ih]; split <;> simp
@[simp] theorem Mod.raisePath_fresh (m : Mod) (u v : Nat) : (m.raisePath u v).fresh = m.fresh := by
  unfold Mod.raisePath
  generalize pathDies u v = l
  induction l generalizing m with
  | nil => rfl
  | cons d l ih => rw [List.foldl_cons, ih]; split <;> simp
@[simp] theorem Mod.raisePath_pw (m : Mod) (u v : Nat) : (m.raisePath u v).pw = m.pw := by
  unfold Mod.raisePath
  generalize pathDies u v = l
  induction l generalizing m with
  | nil => rfl
  | cons d l ih => rw [List.foldl_cons, ih]; split <;> simp
@[simp] theorem Mod.raisePath_reg (m : Mod) (u v : Nat) : (m.raisePath u v).reg = m.reg := by
  unfold Mod.raisePath
  generalize pathDies u v = l
  induction l generalizing m with
  | nil => rfl
  | cons d l ih => rw [List.foldl_cons, ih]; split <;> simp
@[simp] theorem Mod.raisePath_host (m : Mod) (u v : Nat) : (m.raisePath u v).host = m.host := by
  unfold Mod.raisePath
  generalize pathDies u v = l
  induction l generalizing m with
  | nil => rfl
  | cons d l ih => rw [List.foldl_cons, ih]; split <;> simp
@[simp] theorem Mod.raisePath_ld (m : Mod) (u v : Nat) : (m.raisePath u v).ld = m.ld := by
  unfold Mod.raisePath
  generalize pathDies u v = l
  induction l generalizing m with
  | nil => rfl
  | cons d l ih => rw [List.foldl_cons, ih]; split <;> simp
@[simp] theorem Mod.raisePath_img (m : Mod) (u v : Nat) : (m.raisePath u v).img = m.img := by
  unfold Mod.raisePath
  generalize pathDies u v = l
  induction l generalizing m with
  | nil => rfl
  | cons d l ih => rw [List.foldl_cons, ih]; split <;> simp
@[simp] theorem Mod.raisePath_mbox (m : Mod) (u v : Nat) : (m.raisePath u v).mbox = m.mbox := by
  unfold Mod.raisePath
  generalize pathDies u v = l
  induction l generalizing m with
  | nil => rfl
  | cons d l ih => rw [List.foldl_cons, ih]; split <;> simp
@[simp] theorem Mod.raisePath_mem (m : Mod) (u v : Nat) : (m.raisePath u v).mem = m.mem := by
  unfold Mod.raisePath
  generalize pathDies u v = l
  induction l generalizing m with
  | nil => rfl
  | cons d l ih => rw [List.foldl_cons, ih]; split <;> simp
@[simp] theorem Mod.raisePath_hmem (m : Mod) (u v : Nat) : (m.raisePath u v).hmem = m.hmem := by
  unfold Mod.raisePath
  generalize pathDies u v = l
  induction l generalizing m with
  | nil => rfl
  | cons d l ih => rw [List.foldl_cons, ih]; split <;> simp
@[simp] theorem Mod.raisePath_tile (m : Mod) (u v : Nat) : (m.raisePath u v).tile = m.tile := by
  unfold Mod.raisePath
  generalize pathDies u v = l
  induction l generalizing m with
  | nil => rfl
  | cons d l ih => rw [List.foldl_cons, ih]; split <;> simp
@[simp] theorem Mod.raisePath_upd (m : Mod) (u v : Nat) : (m.raisePath u v).upd = m.upd := by
  unfold Mod.raisePath
  generalize pathDies u v = l
  induction l generalizing m with
  | nil => rfl
  | cons d l ih => rw [List.foldl_cons, ih]; split <;> simp
@[simp] theorem Mod.raisePath_far (m : Mod) (u v : Nat) : (m.raisePath u v).far = m.far := by
  unfold Mod.raisePath
  generalize pathDies u v = l
  induction l generalizing m with
  | nil => rfl
  | cons d l ih => rw [List.foldl_cons, ih]; split <;> simp
@[simp] theorem Mod.raisePath_parked (m : Mod) (u v : Nat) : (m.raisePath u v).parked = m.parked := by
  unfold Mod.raisePath
  generalize pathDies u v = l
  induction l generalizing m with
  | nil => rfl
  | cons d l ih => rw [List.foldl_cons, ih]; split <;> simp
@[simp] theorem Mod.raisePath_sleepers (m : Mod) (u v : Nat) : (m.raisePath u v).sleepers = m.sleepers := by
  unfold Mod.raisePath
  generalize pathDies u v = l
  induction l generalizing m with
  | nil => rfl
  | cons d l ih => rw [List.foldl_cons, ih]; split <;> simp
@[simp] theorem Mod.raisePath_sc (m : Mod) (u v : Nat) : (m.raisePath u v).sc = m.sc := by
  unfold Mod.raisePath
  generalize pathDies u v = l
  induction l generalizing m with
  | nil => rfl
  | cons d l ih => rw [List.foldl_cons, ih]; split <;> simp
@[simp] theorem Mod.raisePath_chan (m : Mod) (u v : Nat) : (m.raisePath u v).chan = m.chan := by
  unfold Mod.raisePath
  generalize pathDies u v = l
  induction l generalizing m with
  | nil => rfl
  | cons d l ih => rw [List.foldl_cons, ih]; split <;> simp
@[simp] theorem Mod.raisePath_chanFree (m : Mod) (u v : Nat) : (m.raisePath u v).chanFree = m.chanFree := by
  unfold Mod.raisePath
  generalize pathDies u v = l
  induction l generalizing m with
  | nil => rfl
  | cons d l ih => rw [List.foldl_cons, ih]; split <;> simp
@[simp] theorem Mod.raisePath_msgs (m : Mod) (u v : Nat) : (m.raisePath u v).msgs = m.msgs := by
  unfold Mod.raisePath
  generalize pathDies u v = l
  induction l generalizing m with
  | nil => rfl
  | cons d l ih => rw [List.foldl_cons, ih]; split <;> simp
@[simp] theorem Mod.raisePath_safe (m : Mod) (u v : Nat) : (m.raisePath u v).safe = m.safe := by
  unfold Mod.raisePath
  generalize pathDies u v = l
  induction l generalizing m with
  | nil => rfl
  | cons d l ih => rw [List.foldl_cons, ih]; split <;> simp
@[simp] theorem Mod.raisePath_icp (m : Mod) (u v : Nat) : (m.raisePath u v).icp = m.icp := by
  unfold Mod.raisePath
  generalize pathDies u v = l
  induction l generalizing m with
  | nil => rfl
  | cons d l ih => rw [List.foldl_cons, ih]; split <;> simp
@[simp] theorem Mod.raisePath_grm (m : Mod) (u v : Nat) : (m.raisePath u v).grm = m.grm := by
  unfold Mod.raisePath
  generalize pathDies u v = l
  induction l generalizing m with
  | nil => rfl
  | cons d l ih => rw [List.foldl_cons, ih]; split <;> simp
@[simp] theorem Mod.raisePath_ers (m : Mod) (u v : Nat) : (m.raisePath u v).ers = m.ers := by
  unfold Mod.raisePath
  generalize pathDies u v = l
  induction l generalizing m with
  | nil => rfl
  | cons d l ih => rw [List.foldl_cons, ih]; split <;> simp
@[simp] theorem Mod.raisePath_mon (m : Mod) (u v : Nat) : (m.raisePath u v).mon = m.mon := by
  unfold Mod.raisePath
  generalize pathDies u v = l
  induction l generalizing m with
  | nil => rfl
  | cons d l ih => rw [List.foldl_cons, ih]; split <;> simp

@[simp] theorem Mod.touch_time (m : Mod) (u : Nat) (tg : Target) : (m.touch u tg).time = m.time := by unfold Mod.touch; cases tg <;> dsimp only [Target.die] <;> (repeat' split) <;> simp
@[simp] theorem Mod.touch_fresh (m : Mod) (u : Nat) (tg : Target) : (m.touch u tg).fresh = m.fresh := by unfold Mod.touch; cases tg <;> dsimp only [Target.die] <;> (repeat' split) <;> simp
@[simp] theorem Mod.touch_pw (m : Mod) (u : Nat) (tg : Target) : (m.touch u tg).pw = m.pw := by unfold Mod.touch; cases tg <;> dsimp only [Target.die] <;> (repeat' split) <;> simp
@[simp] theorem Mod.touch_reg (m : Mod) (u : Nat) (tg : Target) : (m.touch u tg).reg = m.reg := by unfold Mod.touch; cases tg <;> dsimp only [Target.die] <;> (repeat' split) <;> simp
@[simp] theorem Mod.touch_host (m : Mod) (u : Nat) (tg : Target) : (m.touch u tg).host = m.host := by unfold Mod.touch; cases tg <;> dsimp only [Target.die] <;> (repeat' split) <;> simp
@[simp] theorem Mod.touch_ld (m : Mod) (u : Nat) (tg : Target) : (m.touch u tg).ld = m.ld := by unfold Mod.touch; cases tg <;> dsimp only [Target.die] <;> (repeat' split) <;> simp
@[simp] theorem Mod.touch_img (m : Mod) (u : Nat) (tg : Target) : (m.touch u tg).img = m.img := by unfold Mod.touch; cases tg <;> dsimp only [Target.die] <;> (repeat' split) <;> simp
@[simp] theorem Mod.touch_mbox (m : Mod) (u : Nat) (tg : Target) : (m.touch u tg).mbox = m.mbox := by unfold Mod.touch; cases tg <;> dsimp only [Target.die] <;> (repeat' split) <;> simp
@[simp] theorem Mod.touch_mem (m : Mod) (u : Nat) (tg : Target) : (m.touch u tg).mem = m.mem := by unfold Mod.touch; cases tg <;> dsimp only [Target.die] <;> (repeat' split) <;> simp
@[simp] theorem Mod.touch_hmem (m : Mod) (u : Nat) (tg : Target) : (m.touch u tg).hmem = m.hmem := by unfold Mod.touch; cases tg <;> dsimp only [Target.die] <;> (repeat' split) <;> simp
@[simp] theorem Mod.touch_upd (m : Mod) (u : Nat) (tg : Target) : (m.touch u tg).upd = m.upd := by unfold Mod.touch; cases tg <;> dsimp only [Target.die] <;> (repeat' split) <;> simp
@[simp] theorem Mod.touch_far (m : Mod) (u : Nat) (tg : Target) : (m.touch u tg).far = m.far := by unfold Mod.touch; cases tg <;> dsimp only [Target.die] <;> (repeat' split) <;> simp
@[simp] theorem Mod.touch_parked (m : Mod) (u : Nat) (tg : Target) : (m.touch u tg).parked = m.parked := by unfold Mod.touch; cases tg <;> dsimp only [Target.die] <;> (repeat' split) <;> simp
@[simp] theorem Mod.touch_sleepers (m : Mod) (u : Nat) (tg : Target) : (m.touch u tg).sleepers = m.sleepers := by unfold Mod.touch; cases tg <;> dsimp only [Target.die] <;> (repeat' split) <;> simp
@[simp] theorem Mod.touch_sc (m : Mod) (u : Nat) (tg : Target) : (m.touch u tg).sc = m.sc := by unfold Mod.touch; cases tg <;> dsimp only [Target.die] <;> (repeat' split) <;> simp
@[simp] theorem Mod.touch_chan (m : Mod) (u : Nat) (tg : Target) : (m.touch u tg).chan = m.chan := by unfold Mod.touch; cases tg <;> dsimp only [Target.die] <;> (repeat' split) <;> simp
@[simp] theorem Mod.touch_chanFree (m : Mod) (u : Nat) (tg : Target) : (m.touch u tg).chanFree = m.chanFree := by unfold Mod.touch; cases tg <;> dsimp only [Target.die] <;> (repeat' split) <;> simp
@[simp] theorem Mod.touch_msgs (m : Mod) (u : Nat) (tg : Target) : (m.touch u tg).msgs = m.msgs := by unfold Mod.touch; cases tg <;> dsimp only [Target.die] <;> (repeat' split) <;> simp
@[simp] theorem Mod.touch_safe (m : Mod) (u : Nat) (tg : Target) : (m.touch u tg).safe = m.safe := by unfold Mod.touch; cases tg <;> dsimp only [Target.die] <;> (repeat' split) <;> simp
@[simp] theorem Mod.touch_icp (m : Mod) (u : Nat) (tg : Target) : (m.touch u tg).icp = m.icp := by unfold Mod.touch; cases tg <;> dsimp only [Target.die] <;> (repeat' split) <;> simp
@[simp] theorem Mod.touch_grm (m : Mod) (u : Nat) (tg : Target) : (m.touch u tg).grm = m.grm := by unfold Mod.touch; cases tg <;> dsimp only [Target.die] <;> (repeat' split) <;> simp
@[simp] theorem Mod.touch_ers (m : Mod) (u : Nat) (tg : Target) : (m.touch u tg).ers = m.ers := by unfold Mod.touch; cases tg <;> dsimp only [Target.die] <;> (repeat' split) <;> simp
@[simp] theorem Mod.touch_mon (m : Mod) (u : Nat) (tg : Target) : (m.touch u tg).mon = m.mon := by unfold Mod.touch; cases tg <;> dsimp only [Target.die] <;> (repeat' split) <;> simp

/-! Parity (R386). -/

/-- What a table gives stands in it. -/
theorem tget?_mem {α : Type} {t : Tbl α} {i : Nat} {v : α} (h : tget? t i = some v) : (i, v) ∈ t := by
  induction t with
  | nil => cases h
  | cons p t ih =>
    unfold tget? at h
    split at h
    · next hi => cases h; simp [hi]
    · exact List.mem_cons_of_mem _ (ih h)
/-- Where every parity agrees, every register may be used. -/
theorem RegFile.sound_of_parityOk (r : RegFile) (o : Nat) (h : r.parityOk = true) : r.sound o = true := by
  cases hp : tget? r.par o with
  | none => simp [RegFile.sound, hp]
  | some b =>
    have hm : (o, b) ∈ r.par := tget?_mem hp
    exact List.all_eq_true.mp h _ hm
/-- Registers whose parity agrees are used (R386). -/
theorem Mod.using_ok (m : Mod) (offs : List Nat) (k : Mod → Mod) (h : m.reg.parityOk = true) : m.using offs k = k m := by
  unfold Mod.using; rw [if_pos (List.all_eq_true.mpr (fun o _ => m.reg.sound_of_parityOk o h))]
/-- An event is raised as its register is set (R381, R386). -/
theorem Mod.raiseEv_ok (m : Mod) (off bits : Nat) (h : m.reg.parityOk = true) : m.raiseEv off bits = m.putEv off bits := by
  unfold Mod.raiseEv Mod.evUnsound
  cases he : m.evSends off bits with
  | none => simp
  | some v => simp [m.reg.sound_of_parityOk v h]

/-! Line writes and updates. -/

/-- With no injected error pending, a read meets none (R415). -/
theorem Mod.readMark_none (m : Mod) (a n : Nat) (h : m.mon.inject = none) : m.readMark a n = m := by
  unfold Mod.readMark; rw [h]
theorem Mod.uncorrectable_none (m : Mod) (a n : Nat) (h : m.mon.inject = none) : m.uncorrectable a n = false := by
  unfold Mod.uncorrectable; rw [h]
/-- With no injected error pending, a bank write writes its bytes (R138). -/
theorem Mod.bankWrite_none (m : Mod) (a : Nat) (bs : List Byte) (h : m.mon.inject = none) : m.bankWrite a bs = m.wr a bs := by
  unfold Mod.bankWrite
  have hf : (partWords a bs.length).find? (fun w => m.uncorrectable w 8) = none := by
    simp [Mod.uncorrectable_none _ _ _ h]
  rw [hf]
  have hr : ∀ (l : List Nat), l.foldl (fun m w => m.readMark w 8) m = m := by
    intro l; induction l with
    | nil => rfl
    | cons x l ih => rw [List.foldl_cons, Mod.readMark_none _ _ _ h, ih]
  rw [hr]
/-- Serving a read changes nothing: its bytes have been taken at its turn (R145). -/
theorem Mod.serve_read (m : Mod) (mt : Nat) (r : LineReq) (h : r.reads = true) : m.serve mt r = m := by
  unfold Mod.serve; rw [if_pos h]
/-- Serving a write of a tenancy that may write the tile writes what it leaves there (R140, R144, R149). -/
theorem Mod.serve_ok (m : Mod) (mt : Nat) (r : LineReq) (hr : r.reads = false) (h : m.tenOk mt r.ten = true) (hi : m.mon.inject = none) :
    m.serve mt r = m.wr r.addr (m.reqBytes r) := by
  unfold Mod.serve; rw [if_neg (by simp [hr]), if_pos h, Mod.bankWrite_none _ _ _ hi]
/-- Serving any other line writes nothing and raises the command's fault (R140). -/
theorem Mod.serve_refused (m : Mod) (mt : Nat) (r : LineReq) (hr : r.reads = false) (h : m.tenOk mt r.ten = false) :
    m.serve mt r = m.cmdFault r.ctx 0x0807 (r.addr + mtTile mt * 2 ^ 48) := by
  unfold Mod.serve; rw [if_neg (by simp [hr]), if_neg (by simp [h])]
/-- Serving a request keeps the memory's form. -/
theorem Mod.serve_inv (m : Mod) (mt : Nat) (r : LineReq) (hi : m.mon.inject = none) (h : m.MemInv) : (m.serve mt r).MemInv := by
  unfold Mod.serve; split
  · exact h
  split
  · rw [Mod.bankWrite_none _ _ _ hi]; exact m.wr_inv _ _ h
  · exact ⟨by simpa using h.1, by simpa using h.2⟩
/-- What waits at HBM and LPDDR-5X is applied by the test alone: with nothing waiting nothing happens. -/
theorem Mod.applyAll_nil (m : Mod) (p : Upd → Bool) (h : m.upd = []) : m.applyAll p = m := by
  unfold Mod.applyAll; rw [h]; cases m; simp_all
/-- With no request waiting, nothing stands ahead (R145). -/
theorem Mod.runBanks_nil (m : Mod) (sv : Mod → Nat → LineReq → Mod) (die : Nat → Bool) (p : Nat → LineReq → Bool)
    (h : ∀ kv ∈ m.tile, kv.2.reqs = []) : m.runBanks sv die p = m := by
  unfold Mod.runBanks
  generalize hl : m.tile = l at h
  clear hl
  induction l with
  | nil => rfl
  | cons kv l ih =>
    rw [List.foldl_cons]
    have h1 : (kv.2.reqs.any (p (mtOf kv.1)) && die (tDie kv.1)) = false := by simp [h kv (by simp)]
    rw [if_neg (by simp [h1])]
    exact ih (fun x hx => h x (by simp [hx]))
theorem Mod.serveAll_nil (m : Mod) (p : Nat → LineReq → Bool) (h : ∀ kv ∈ m.tile, kv.2.reqs = []) : m.serveAll p = m :=
  m.runBanks_nil _ _ p h
/-- Memory-side updates saturate (Table 6.8). -/
theorem updResult_max (old v : Nat) : updResult 0 old v = max old v := rfl
theorem updResult_add (old v : Nat) : updResult 1 old v = min (old + v) (2 ^ 32 - 1) := rfl

/-! Semaphores (R131 to R133). -/

/-- A signal within range adds. -/
theorem Tile.semAdd_in (t : Tile) (n : Nat) (d : Int) (h0 : 0 ≤ (tget 0 t.sem n : Nat) + d) (h1 : (tget 0 t.sem n : Nat) + d ≤ 65535) :
    t.semAdd n d = { t with sem := tset t.sem n ((tget 0 t.sem n : Nat) + d).toNat } := by
  unfold Tile.semAdd; dsimp only; rw [if_neg (by omega), if_neg (by omega)]
/-- A semaphore's value never leaves its 16 bits (R132). -/
theorem Tile.semAdd_le (t : Tile) (n : Nat) (d : Int) : tget 0 (t.semAdd n d).sem n ≤ 65535 := by
  unfold Tile.semAdd; dsimp only
  split
  · simp
  · split
    · simp
    · simp; omega
/-- A wait for nothing is granted (R131). -/
theorem Tile.semWait_zero (t : Tile) (eng n : Nat) : t.semWait eng n 0 = (true, t) := rfl

/-! Faults. -/

/-- After the first fault is contained, a further one is only counted (R410). -/
theorem Mod.fatal_again (m : Mod) (code unit tile addr : Nat) (h : m.mon.fltState ≠ 0) :
    m.fatal code unit tile addr = { m with mon := { m.mon with fltCount := satAdd 16 m.mon.fltCount 1 } } := by
  unfold Mod.fatal; rw [if_pos h]

/-! Steps. -/

/-- A step with a command in front is that command on the queue's rest. -/
theorem step_cons (s : State) (c : Instr) (rest : List Instr) (h : s.pending = c :: rest) : step s = exec c { s with pending := rest } := by
  unfold step; rw [h]
/-- A step on an empty queue is one tick. -/
theorem step_nil (s : State) (h : s.pending = []) : step s = .next (s.on Mod.tick) := by
  unfold step; rw [h]

end Sys2Proof.Machine
end

