-- ==== Sys2Proof/Laws/Scalar.lean ====
section
/-! SUPPORT. What the S-core's shared operations do: running a word, going on, writing a register. -/

namespace Sys2Proof.Machine

/-- An S-core about to execute a word of opcode op runs it. -/
theorem scRun_at {s : State} {n w op : Nat} (h : ScAt s n w op) (f : Nat → SCore → Mod) :
    s.m.scRun n op none f = f w (s.m.s n) := by
  obtain ⟨h1, h2, h3, h4, h5, h6, h7⟩ := h
  subst h5
  have h8 : ¬ (0x30000 ≤ (s.m.s n).pc) := by omega
  unfold Mod.scRun
  rw [if_neg (by simp only [h2, h3, h8]; decide)]
  rw [if_pos]
  unfold Mod.scReady
  simp only [h2, h3, h6, h7, h1, decide_true, beq_self_eq_true, Bool.and_self]

/-- An S-core about to execute a word of opcode 0 and function fn runs it. -/
theorem scRun_fn {s : State} {n w fn : Nat} (h : ScAt s n w 0) (hf : fld w 10 0 = fn) (f : Nat → SCore → Mod) :
    s.m.scRun n 0 (some fn) f = f w (s.m.s n) := by
  obtain ⟨h1, h2, h3, h4, h5, h6, h7⟩ := h
  subst h5; subst hf
  have h8 : ¬ (0x30000 ≤ (s.m.s n).pc) := by omega
  unfold Mod.scRun
  rw [if_neg (by simp only [h2, h3, h8]; decide)]
  rw [if_pos]
  unfold Mod.scReady
  simp only [h2, h3, h6, h7, h1, decide_true, beq_self_eq_true, Bool.and_self]

/-- An S-core that goes on to an address of the program area keeps everything but its pc. -/
theorem goTo_in (m : Mod) (n pc : Nat) (c : SCore) (h : pc < 0x30000) : m.goTo n c pc = m.sput n { c with pc := pc } := by
  unfold Mod.goTo; rw [if_pos h]

/-- Writing rd and going on, within the program area. -/
theorem wrRd_in (m : Mod) (n r : Nat) (v : Word) (h : (m.s n).pc + 4 < 0x30000) :
    m.wrRd n r v = m.sput n { m.s n with g := if r = 0 then (m.s n).g else tset (m.s n).g r v, pc := (m.s n).pc + 4 } := by
  unfold Mod.wrRd Mod.goNext SCore.setG
  split
  · rw [goTo_in _ _ _ _ h]
  · rw [goTo_in _ _ _ _ h]

/-- Register reads as the statements write them. -/
theorem gr_eq (s : State) (n r : Nat) : (s.m.s n).getG r = s.gr n r := rfl

/-- A write of rd by a word, as the statements write it. -/
theorem scWrote_eq (s : State) (n r : Nat) (v : Word) (h : (s.m.s n).pc + 4 < 0x30000) :
    (s.on fun m => m.wrRd n r v) = s.scWrote n r v := by
  show ({ s with m := s.m.wrRd n r v } : State) = _
  rw [wrRd_in _ _ _ _ h]; rfl

end Sys2Proof.Machine
end

