-- ==== Sys2Proof/Tests/Slice0.lean ====
section
/-! SUPPORT. The smoke test of well-formedness (a term for each check, which the check refuses), and small tests of single commands
whose expected results come from the spec. -/

namespace Sys2Proof.Tests
set_option Elab.async false

open Sys2Proof.Machine

/-- A flit whose fields are all zero. -/
def flit0 : Flit := { typ := 0, vl := 0, hops := 0, dst := 0, src := 0, xacc := false, last := true, txn := 0, keyA := 0, keyB := 0,
                      keyC := 0, payload := [], lseq := 0, lack := 0, creditVl := 0, credits := 0 }

/-- The list holds only ill-formed commands. -/
def refused (l : List Instr) : Bool := l.all (fun c => !c.wf)

theorem test_wf_host_bar2_write :
  refused [.hostBar2Write 64 0 false [1], .hostBar2Write 0 0 false [], .hostBar2Write 0 (2 ^ 48) false [1]] = true := by decide
theorem test_wf_host_bar2_read :
  refused [.hostBar2Read 64 0 4, .hostBar2Read 0 0 0, .hostBar2Read 0 (2 ^ 48) 1] = true := by decide
theorem test_wf_work_bitmap_write :
  refused [.workBitmapWrite 64 0 [1], .workBitmapWrite 0 16384 [1]] = true := by decide
theorem test_wf_contexts :
  refused [.contextEntryRead 65536, .commandRecordRead 65536, .wakeToRunDone 65536, .abortDrainDone 65536] = true := by decide
theorem test_wf_dies :
  refused [.wakeToNapDone 6, .idleNapExpire 6, .idleDeepExpire 6, .napEntryDone 6, .deepEntryDone 6] = true := by decide
theorem test_wf_memory_tiles :
  refused [.tileUngateDone 288, .tileRegate 288, .memTileRequest 288 0 0, .memTileRequest 0 16 0, .eccWriteBack 288 0,
    .eccWriteBack 0 16, .memoryScrub 294] = true := by decide
theorem test_wf_score_words :
  refused [.doneReport 64, .scAdd 64, .scSub 64, .scAnd 64, .scOr 64, .scXor 64, .scSll 64, .scSrl 64, .scSra 64,
    .scSlt 64, .scSltu 64, .scMul 64, .scMulh 64, .scMulhu 64, .scDiv 64, .scDivu 64, .scRem 64, .scRemu 64,
    .scAddi 64, .scAndi 64, .scOri 64, .scXori 64, .scSlti 64, .scSlli 64, .scSrli 64, .scSrai 64, .scLui 64,
    .scLdb 64, .scLdbu 64, .scLdh 64, .scLdhu 64, .scLdw 64, .scStb 64, .scSth 64, .scStw 64] = true := by decide
theorem test_wf_score_control :
  refused [.scBeq 64, .scBne 64, .scBlt 64, .scBge 64, .scBltu 64, .scBgeu 64, .scJal 64, .scJalr 64, .scSemwait 64,
    .scSemtry 64, .scSemadd 64, .scSemrd 64, .scRdc 64, .scWrc 64, .scFence 64, .scLaunch 64, .scChopen 64,
    .scChsend 64, .scChwait 64, .scChack 64, .scChrel 64, .chwaitTimeout 64, .fullTimeout 64, .scIcpacq 64,
    .scIcpload 64, .scIcprel 64, .scDone 64, .fenceComplete 64, .scIllegal 64] = true := by decide
theorem test_wf_aperture_returns :
  refused [.apertureLoadReturn 64 1, .apertureLoadReturn 0 32] = true := by decide
theorem test_wf_semaphore_grants :
  refused [.semaphoreWaitGrant 0x3FF 0, .semaphoreWaitGrant 0x020 32] = true := by decide
theorem test_wf_channel_records :
  refused [.channelRecordVisible 65536 0 0, .channelRecordVisible 0 16384 0] = true := by decide
theorem test_wf_engine_queues :
  refused [.descriptorBurstArrive 0x0A0 0, .transferStart 0x0A0 0, .syncDescriptor 0x0A0 0, .fenceDescriptor 0x0A0 0,
    .fenceDescriptorEnd 0x0A0 0, .dependenceMark 0x0A0 0, .carouselDescriptor 0x0A0 0, .descriptorBurstArrive 0x020 4,
    .transferStart 0x020 4, .syncDescriptor 0x020 4, .fenceDescriptor 0x020 4, .fenceDescriptorEnd 0x020 4,
    .dependenceMark 0x020 4, .carouselDescriptor 0x020 4, .descriptorBurstArrive 0x070 2, .transferStart 0x070 2,
    .syncDescriptor 0x070 2, .fenceDescriptor 0x070 2, .fenceDescriptorEnd 0x070 2, .dependenceMark 0x070 2,
    .carouselDescriptor 0x070 2, .transferComplete 0x0A0 0 0] = true := by decide
theorem test_wf_matrix_cores :
  refused [.matrixSegmentStart 0x070, .chunkLoaded 0x070, .passStart 0x070, .passEnd 0x070, .fixDrainRecord 0x070,
    .longFormStallEnd 0x070, .drainDescriptorTake 0x070, .finaliseBlock 0x070, .drainWritesDone 0x070,
    .cellProduct 0x070 0, .cellProduct 0x020 16384] = true := by decide
theorem test_wf_vector_cores :
  refused [.vectorDescriptorStart 0x020, .vectorDescriptorComplete 0x020 0] = true := by decide
theorem test_wf_posted_notices :
  refused [.postedNotify 64 0, .postedNotify 0 2] = true := by decide
theorem test_wf_fabric_tiles :
  refused [.tokenHead 0x3FF 0, .tokenHead 0x020 40, .steerFire 0x3FF 0, .steerFire 0x020 4, .slideChangeStart 0x3FF,
    .slideChangeDone 0x3FF, .commitArrive 0x3FF, .tileSwitch 0x3FF] = true := by decide
theorem test_wf_groomers :
  refused [.groomerRecord 4, .groomerBlockArrive 4, .wcWriteIssue 4, .groomerGoWord 4 0, .groomerGoWord 0 65536,
    .shardReduceDone 4 0, .shardReduceDone 0 65536, .digestFlagOrDone 4 0, .digestFlagOrDone 0 65536,
    .grmPositionWrite 4 0, .grmPositionWrite 0 (2 ^ 64)] = true := by decide
theorem test_wf_ports :
  refused [.portUp 32 0 0, .portUp 0 1024 0, .portUp 0 0 65536, .portRetrain 32, .portRestore 32, .portDisable 32,
    .laneLockLoss 32, .linkTimeout 32, .portUpTimeout 32, .linkWakeDone 32, .idleTimer 32, .badCrc 32, .portEnable 32,
    .slotMoveDone 1024 0, .slotMoveDone 0 16] = true := by decide
theorem test_wf_flits_on_a_port :
  refused [.flitIdle 32 flit0, .flitRetry 32 flit0, .flitReadReq 32 flit0, .flitReadResp 32 flit0,
    .flitWrite 32 flit0, .flitXacc 32 flit0, .flitAck 32 flit0, .flitNack 32 flit0, .flitReady 32 flit0,
    .flitAlive 32 flit0, .flitAbandon 32 flit0, .flitCollData 32 flit0, .flitFault 32 flit0] = true := by decide
theorem test_wf_flits_malformed :
  refused [.flitIdle 0 { flit0 with typ := 256 }, .flitRetry 0 { flit0 with typ := 256 },
    .flitReadReq 0 { flit0 with typ := 256 }, .flitReadResp 0 { flit0 with typ := 256 },
    .flitWrite 0 { flit0 with typ := 256 }, .flitXacc 0 { flit0 with typ := 256 },
    .flitAck 0 { flit0 with typ := 256 }, .flitNack 0 { flit0 with typ := 256 },
    .flitReady 0 { flit0 with typ := 256 }, .flitAlive 0 { flit0 with typ := 256 },
    .flitAbandon 0 { flit0 with typ := 256 }, .flitCollData 0 { flit0 with typ := 256 },
    .flitFault 0 { flit0 with typ := 256 }] = true := by decide
theorem test_wf_collectives :
  refused [.collectiveTimeout 2 0 0, .collectiveTimeout 0 0 1024, .collectiveComplete 2 0, .aliveInterval 2,
    .windowLeaseExpire 4096] = true := by decide
theorem test_wf_resets :
  refused [.porEnd false 1024, .perstNRelease 1024, .warmReset 3, .vfFlr 64] = true := by decide
theorem test_wf_register_values :
  refused [.mboxLock (2 ^ 32), .fltInject (2 ^ 32), .safeSleepCtrlWrite (2 ^ 32), .mboxFormat (2 ^ 32),
    .smbPowerCapWrite ⟨65536, none⟩, .smbPowerCapWrite ⟨0, some 256⟩, .boundaryScan ⟨0, none, 32⟩, .clearHalt 16, .cmdReject 2, .pcieLinkState ⟨4, true, 16⟩, .pcieLinkState ⟨0, true, 0⟩, .d3hot 64 true] = true := by decide
theorem test_wf_flash :
  refused [.flashErase 4096, .flashWrite (2 ^ 28) [1], .flashWrite 0 []] = true := by decide
theorem test_wf_registers :
  refused [.rcRegisterRead 64 (.bar0 0) 15, .rcRegisterRead 0 (.bar4 (2 ^ 28)) 15, .rcRegisterRead 0 (.cfg 0) 16,
    .aliasAccess (2 ^ 27) true 0, .aliasAccess 0 true (2 ^ 32), .pairLoRead (2 ^ 27), .pairHiWrite (2 ^ 27) 0,
    .pairHiWrite 0 (2 ^ 32), .meterConfigWrite (2 ^ 27) 0, .meterConfigWrite 0 (2 ^ 32), .registerWrite 64 (.bar0 0) 0 15,
    .registerWrite 0 (.bar0 (2 ^ 28)) 0 15, .registerWrite 0 (.bar0 0) (2 ^ 32) 15, .registerWrite 0 (.cfg 0) 0 16] = true := by decide
theorem test_wf_fatal_faults :
  refused [.fatalFault 65536 0 0 0, .fatalFault 0 8 0 0, .fatalFault 0 0 1024 0, .fatalFault 0 0 0 (2 ^ 48),
    .clockLoss 10] = true := by decide
theorem test_wf_samples :
  refused [.thermalTick [1, 2], .railSample [] (List.replicate 11 0), .railSample (List.replicate 11 0) []] = true := by decide
theorem test_wf_flit_typ : Flit.wf { flit0 with typ := 256 } = false := by decide
theorem test_wf_flit_vl : Flit.wf { flit0 with vl := 8 } = false := by decide
theorem test_wf_flit_hops : Flit.wf { flit0 with hops := 32 } = false := by decide
theorem test_wf_flit_dst : Flit.wf { flit0 with dst := 1024 } = false := by decide
theorem test_wf_flit_src : Flit.wf { flit0 with src := 1024 } = false := by decide
theorem test_wf_flit_txn : Flit.wf { flit0 with txn := 65536 } = false := by decide
theorem test_wf_flit_keyA : Flit.wf { flit0 with keyA := 2 ^ 16 } = false := by decide
theorem test_wf_flit_keyB : Flit.wf { flit0 with keyB := 2 ^ 32 } = false := by decide
theorem test_wf_flit_keyC : Flit.wf { flit0 with keyC := 2 ^ 64 } = false := by decide
theorem test_wf_flit_payload : Flit.wf { flit0 with payload := List.replicate 225 0 } = false := by
  have h : (List.replicate 225 (0 : BitVec 8)).length = 225 := List.length_replicate
  simp only [Flit.wf, h]; rfl
theorem test_wf_flit_lseq : Flit.wf { flit0 with lseq := 4096 } = false := by decide
theorem test_wf_flit_lack : Flit.wf { flit0 with lack := 4096 } = false := by decide
theorem test_wf_flit_creditVl : Flit.wf { flit0 with creditVl := 8 } = false := by decide
theorem test_wf_flit_credits : Flit.wf { flit0 with credits := 32 } = false := by decide
theorem test_wf_flit : Flit.wf flit0 = true := by decide

/-! Values the spec works out. -/

/-- Table 1.2: the kinds of five tiles of strip 0. -/
theorem test_kinds : [0x000, 0x010, 0x011, 0x020, 0x070].map kindOf = [.port, .mem, .score, .mcore, .vcore] := by decide
/-- The example under R137: tile 40 of CD[2] is at (8, 5); its base; BANK of tile offset 0x12345. -/
theorem test_tile_40 : (mtTile 184 = tileAt 2 8 5 ∧ mtBase 184 = 0x08002E000000) ∧ bankOf (mtBase 184 + 0x12345) = 13 := by decide
/-- R144: the ports by which tiles (0, 1) and (0, 8) serve their cores. -/
theorem test_home_ports :
    portOf (mtOf 0x010) 0x011 = 0 ∧ portOf (mtOf 0x010) 0x020 = 1 ∧ portOf (mtOf 0x080) 0x070 = 0 ∧ portOf (mtOf 0x080) 0x081 = 1 := by
  decide
/-- Table 2.6, vectors A and B. -/
theorem test_mixer : mix 0#64 = 0x236C0E7A77A3CFCE#64 ∧ mix 1#64 = 0x24E4CE6CB7A3B39B#64 := by decide
/-- Table 2.6, vector C and u of the four widths. -/
theorem test_mixer_key : srKey 0x0003000000000001 3 0 = 1#64 ∧
    [1, 2, 0, 3].map (fun w => srBits (srWidth w) 0 0 0) = [0x23, 0x236, 0x236C, 0x236C0E] := by decide
/-- The example under R44: 0x3FAADC00 to bf16 under RNE, and under SR as elements 0 and 1. -/
theorem test_convert_bf16 : convertNum 0 {} 0 (decodeNum 3 0x3FAADC00) = 0x3FAB ∧
    convertNum 0 { rc := 5, elem := 0 } 0 (decodeNum 3 0x3FAADC00) = 0x3FAA ∧
    convertNum 0 { rc := 5, elem := 1 } 0 (decodeNum 3 0x3FAADC00) = 0x3FAB := by decide
/-- The example under R46: 1000 and 2000 scaled by 2^-2 to E4M3 and E5M2, and 1000 under SR. -/
theorem test_convert_fp8 : [1000, 2000].map (fun v => convertNum 1 {} (-2) (.fin false v 0)) = [0x78, 0x7E] ∧
    [1000, 2000].map (fun v => convertNum 2 {} (-2) (.fin false v 0)) = [0x5C, 0x60] ∧
    convertNum 1 { rc := 5 } (-2) (.fin false 1000 0) = 0x77 := by decide
/-- The example under R46: the maximum patterns of 1000 and 2000. -/
theorem test_max_pattern : maxPattern (.fin false 1000 0) = 0x447A0000 ∧ maxPattern (.fin false 2000 0) = 0x44FA0000 := by decide
/-- The example of slices: 0.1 in FP32 has chunks 0xCC, 0xCC, 0xCD and exponent -4; in FP64 the last of seven is 0xD0. -/
theorem test_slices : (List.range 3).map (sliceOf 3 0x3DCCCCCD) = [(0xCC, -4), (0xCC, -4), (0xCD, -4)] ∧
    sliceOf 4 0x3FB999999999999A 6 = (0xD0, -4) := by decide
/-- The three-module all-reduce example: 1.5 * 2^40 + 0.375 - 1.5 * 2^40 rounds to 0.375. -/
theorem test_exact_sum : roundNum 3 {} (((Epr.ofFmt 3 0x53C00000).add (Epr.ofFmt 3 0x3EC00000)).add (Epr.ofFmt 3 0xD3C00000)).num
    = 0x3EC00000 := by decide
/-- The Groomer example: the working copy of 1 + 3.75 * 2^-7 is 0x3F84. -/
theorem test_working_copy : convertNum 0 {} 0 (.fin false (4 * 128 + 15) (-9)) = 0x3F84 := by decide
/-- Table 5.13: a wait for 2, then a wait for 1, blocked behind it while the value is 1; the older is granted at 2. -/
theorem test_semaphore_order :
    let t := ((({} : Tile).semWait 2 3 2).2.semWait 3 3 1).2
    (t.semAdd 3 1).semHead 3 = none ∧ ((t.semAdd 3 1).semAdd 3 1).semHead 3 = some ⟨2, 3, 2⟩ := by decide

/-- Table 11.3: the test vectors of H. -/
theorem test_hash : hashH 0 (List.replicate 32 0) = 0 ∧ hashH 0 (List.replicate 31 0 ++ [1]) = 1 ∧
    hashH 0 (List.replicate 30 0 ++ [1, 0]) = 0x5A3C96E10D4B7F29 ∧ hashH 0 (List.replicate 30 0 ++ [1, 2]) = 0x5A3C96E10D4B7F2B ∧
    hashH 0 (List.replicate 31 0 ++ [0xFFFFFFFFFFFFFFFF]) = 0x3A := by decide

/-- FIPS 180-4, the example of SHA-384: the digest of the three bytes "abc" (R333 names the hash; the vector is the standard's). -/
theorem test_sha384_abc : (sha384 [0x61, 0x62, 0x63]).take 8 = [0xCB, 0x00, 0x75, 0x3F, 0x45, 0xA3, 0x5E, 0x8B] := by decide +kernel

end Sys2Proof.Tests
end

