-- ==== Sys2Proof/Tests/States.lean ====
section
/-! SUPPORT. Small states that the tests share. -/

namespace Sys2Proof.Tests
set_option Elab.async false
open Sys2Proof Sys2Proof.Machine

/-- A die that stands in a state. -/
def dieAt (k : Nat) : Die := { st := k }
/-- A module that has started, every die in RUN, the link up. -/
def runMod : Mod := { Mod.reset with
  ld := { phase := 6, active := true, started := true }, pw := { on := 2, hbmReady := true, link := 1 },
  dies := [dieAt 2, dieAt 2, dieAt 2, dieAt 2, dieAt 2, dieAt 2] }
/-- A state of that module after a change. -/
def st (f : Mod → Mod) : State := { pending := [], nv := {}, m := f runMod }
/-- A command that runs on die 0 with S-core 0. -/
def cmd0 : Run := { j := 0, cr := 1 + 2 ^ 64, tenancy := 0, phase := 1, launched := true, raised := true }
/-- An S-core word. -/
def enc (op rd ra rb fn : Nat) : Nat := op * 2 ^ 26 + rd * 2 ^ 21 + ra * 2 ^ 16 + rb * 2 ^ 11 + fn
/-- S-core 0 of command 0 at its pc, about to execute a word. -/
def scM (w : Nat) (c : SCore) (t : Tile) (m : Mod) : Mod :=
  { m with sc := [(0, { c with running := true })], tile := [(scTile 0, { t with prog := mwrite 0 [] c.pc (natLE 4 w) })],
           safe := { m.safe with ctx := [(0, { state := 1, run := some cmd0 })] } }
def scSt (w : Nat) (c : SCore) (t : Tile) : State := st (scM w c t)

end Sys2Proof.Tests
end

