-- ==== Sys2Proof/Tests/WitnessChannels.lean ====
section
/-! SUPPORT. States and operands that meet the hypotheses of the channel and ICP statements, clause by clause. -/

namespace Sys2Proof.Tests
set_option Elab.async false
open Sys2Proof Sys2Proof.Machine

/-- scSt with two channels reserved and some channels open. -/
def chSt (w : Nat) (c : SCore) (chans : Tbl Chan) : State :=
  (scSt w c {}).on fun m => { m with chan := chans, safe := { m.safe with ctx := [(0, { state := 1, run := some { cmd0 with cr := cmd0.cr + 2 * 2 ^ 98 } })] } }
def aChan : Chan := { ring := 0x080000000000 }
theorem witness_RingPlacementRules :
    (let c : Chan := { wr := 4032 }
     c.rd < c.size ∧ c.wr < c.size ∧ c.u = 0 ∧ 64 ≤ c.size - c.wr ∧ c.size - c.wr < 128 ∧ c.rd < 128) ∧
    (let c : Chan := { wr := 4032, rd := 2048, u := 1984 }
     c.rd < c.wr ∧ c.size - c.wr < 2048 ∧ 2048 ≤ c.rd) ∧
    (let c : Chan := { wr := 64, rd := 128, u := 4032 }
     ¬ (c.u = 0 ∨ c.rd < c.wr) ∧ 64 ≤ c.rd - c.wr ∧ c.rd - c.wr < 128) ∧
    (let c : Chan := { wr := 4032, rd := 4032 }
     2 * 2048 ≤ c.size ∧ c.u = 0 ∧ c.rd = c.wr) := by decide +kernel
theorem witness_ChannelOpen :
    let w := enc 0x28 1 2 0 0
    let s (x : Nat) (l : Tbl Chan) : State := chSt w { g := [(2, 0x30000)], data := mwrite 0 [] 0 (natLE 16 x) } l
    let x (s : State) : Nat := leNat (mread 0 (s.m.s 0).data (0x30000 - 0x30000) 16)
    let good := 1 + 12 * 2 ^ 54 + 0xFFFF * 2 ^ 16
    let form (x : Nat) : Prop := fld x 15 14 = 0 ∧ fld x 63 59 = 0 ∧ fld x 127 96 = 0 ∧ 12 ≤ fld x 58 54 ∧ fld x 58 54 ≤ 21 ∧
      fld x 53 32 % 4096 = 0 ∧ fld x 53 32 + 2 ^ fld x 58 54 + 2 ^ fld x 58 54 / 16 ≤ 0x400000
    ScAt (s 2 []) 0 w 0x28 ∧ ((s 2 []).gr 0 (fld w 20 16)).toNat = 0x30000 ∧ ¬ fld (x (s 2 [])) 13 0 < (s 2 []).m.nChanOf 0 ∧
    ScAt (s 1 []) 0 w 0x28 ∧ fld (x (s 1 [])) 13 0 < (s 1 []).m.nChanOf 0 ∧ ¬ form (x (s 1 [])) ∧
    ScAt (s good [(1, aChan)]) 0 w 0x28 ∧ form (x (s good [(1, aChan)])) ∧ (tget? (s good [(1, aChan)]).m.chan 1).isSome = true ∧
    ScAt (s good []) 0 w 0x28 ∧ form (x (s good [])) ∧ fld (x (s good [])) 13 0 < (s good []).m.nChanOf 0 ∧ tget? (s good []).m.chan 1 = none := by
  unfold ScAt; decide +kernel
set_option synthInstance.maxSize 2000 in
theorem witness_ChannelSend :
    let w := enc 0x29 1 2 3 0
    let s (h x : Nat) (l : Tbl Chan) : State := chSt w { g := [(2, BitVec.ofNat 32 h), (3, 0x30000)], data := mwrite 0 [] 0 (natLE 16 x) } l
    let x (s : State) : Nat := leNat (mread 0 (s.m.s 0).data (0x30000 - 0x30000) 16)
    let form (x : Nat) : Prop := 64 ≤ fld x 80 64 ∧ fld x 80 64 ≤ 65536 ∧ fld x 63 48 = 0 ∧ fld x 127 81 = 0
    let good := 65536 * 2 ^ 64
    let small := 64 * 2 ^ 64
    let ok (s : State) (h : Nat) : Prop := ScAt s 0 w 0x29 ∧ (s.gr 0 (fld w 15 11)).toNat = 0x30000 ∧ (s.gr 0 (fld w 20 16)).toNat = h
    (∀ h x l, (s h x l).m.reg.parityOk = true) ∧
    ok (s 2 good []) 2 ∧ (s 2 good []).m.nChanOf 0 = 2 ∧
    ok (s 1 0 []) 1 ∧ ¬ form (x (s 1 0 [])) ∧
    ok (s 1 good []) 1 ∧ form (x (s 1 good [])) ∧ tget? (s 1 good []).m.chan 1 = none ∧
    ok (s 1 good [(1, { aChan with grant := 1 })]) 1 ∧ scTile 0 ≠ 1 ∧
    ok (s 1 good [(1, { aChan with closed := true })]) 1 ∧
    ok (s 1 good [(1, aChan)]) 1 ∧ aChan.size < 64 * ((fld (x (s 1 good [(1, aChan)])) 80 64 + 63) / 64) ∧
    ok (s 1 small [(1, aChan)]) 1 ∧ form (x (s 1 small [(1, aChan)])) ∧ 64 * ((fld (x (s 1 small [(1, aChan)])) 80 64 + 63) / 64) ≤ aChan.size ∧
      (s 1 small [(1, aChan)]).sound ∧ ((s 1 small [(1, aChan)]).m.fenceSc 0).quietCore (scTile 0) 4 = true ∧
      (s 1 small [(1, aChan)]).m.awake 0 (fld (x (s 1 small [(1, aChan)])) 47 0) 64 = true ∧ fld (x (s 1 small [(1, aChan)])) 47 0 + 64 ≤ 0x012000000000 := by
  refine ⟨fun _ _ _ => rfl, ?_⟩; unfold ScAt; decide +kernel
/-- A record behind a skip marker in the last line of its ring. -/
theorem witness_ChannelRecordVisible :
    let p : Placed := { pos := 0, n := 64, sender := some 0, data := List.replicate 64 1, len := 64, marker := some 4032 }
    let ch : Chan := { aChan with placed := [p], reader := 1 }
    let s := chSt 0 { block := .chsend 1 1 } [(1, ch)]
    tget? s.m.chan (0 * 16384 + 1) = some ch ∧ p.visible = false ∧ p.len = p.data.length ∧ 64 ≤ p.len ∧ p.len ≤ p.n ∧ p.pos % 64 = 0 ∧
      p.pos + p.n ≤ ch.size ∧ (p.pos + p.n ≤ 4032 ∧ 4032 % 64 = 0 ∧ 4032 + 64 ≤ ch.size) ∧ Mem.wfD 0 s.m.mem = true ∧ ch.size ≤ 2 ^ 21 ∧
      s.sound ∧ s.still ∧ mtBase 0 ≤ ch.ring ∧ ch.ring + ch.size + ch.size / 16 ≤ mtBase 0 + 0x400000 ∧ (∀ d ∈ pathDies (ch.reader / 16) (0 / 72), s.m.sleeps d = false) ∧
      s.m.tenOk 0 (0 / 1024) = true ∧ ch.reader < 64 ∧ p.sender = some 0 ∧ 0 ≠ ch.reader ∧ (s.m.s 0).block = .chsend 1 1 := by decide +kernel
theorem witness_ChannelWait :
    let w := enc 0x2A 1 2 3 0
    let s (h lim : Nat) (l : Tbl Chan) : State := chSt w { g := [(2, BitVec.ofNat 32 h), (3, BitVec.ofNat 32 lim)] } l
    let ok (s : State) (h : Nat) : Prop := ScAt s 0 w 0x2A ∧ (s.gr 0 (fld w 20 16)).toNat = h ∧ s.m.nChanOf (s.m.s 0).ctx = 2
    ok (s 2 0 []) 2 ∧ ok (s 1 0 [(1, { aChan with a := 64 })]) 1 ∧ tget? (s 1 0 [(1, { aChan with a := 64 })]).m.chan 1 = some { aChan with a := 64 } ∧
    ok (s 1 0 [(1, aChan)]) 1 ∧ ok (s 1 7 [(1, aChan)]) 1 ∧ ((s 1 7 [(1, aChan)]).gr 0 (fld w 15 11)).toNat = 7 ∧
    aChan.reader = 0 ∧ aChan.closed = false ∧ aChan.a = 0 ∧ ok (s 1 0 []) 1 ∧ tget? (s 1 0 []).m.chan 1 = none ∧
    (chSt 0 { block := .chwait 1 1 7 } []).m.s 0 = { running := true, block := .chwait 1 1 7 } := by unfold ScAt; decide +kernel
theorem witness_ChannelAcknowledge :
    let w := enc 0x2B 1 2 3 0
    let s (b : Nat) (ch : Chan) : State := chSt w { g := [(2, 1), (3, BitVec.ofNat 32 b)] } [(1, ch)]
    let ch : Chan := { aChan with rd := 4032, wr := 64, u := 128, a := 128 }
    let full : Chan := { aChan with u := 4096, a := 4096, waiting := [⟨none, List.replicate 64 1⟩] }
    let ok (s : State) (b : Nat) : Prop := ScAt s 0 w 0x2B ∧ (s.gr 0 (fld w 20 16)).toNat = 1 ∧ (s.gr 0 (fld w 15 11)).toNat = b ∧
      1 < s.m.nChanOf (s.m.s 0).ctx
    ok (s 128 ch) 128 ∧ tget? (s 128 ch).m.chan 1 = some ch ∧ ok (s 192 ch) 192 ∧ ok (s 1 ch) 1 ∧ ok (s 64 full) 64 ∧
    ({ full with rd := (full.rd + 64) % full.size, u := full.u - 64, a := full.a - 64, waiting := [] } : Chan).place? 64 = some (0, none) := by
  unfold ScAt; decide +kernel
set_option synthInstance.maxSize 2000 in
theorem witness_ChannelRelease :
    let w := enc 0x2C 1 2 0 0
    let s (h : Nat) (l : Tbl Chan) : State := chSt w { g := [(2, BitVec.ofNat 32 h)] } l
    let ok (s : State) (h : Nat) : Prop := ScAt s 0 w 0x2C ∧ (s.gr 0 (fld w 20 16)).toNat = h ∧ s.m.nChanOf (s.m.s 0).ctx = 2
    let p : Placed := { pos := 0, n := 64, sender := some 1, data := [], len := 64, marker := none }
    let l (c : Bool) (r g : Nat) : Tbl Chan := [(1, { aChan with closed := c, reader := r, grant := g, placed := [p] })]
    (∀ h l, (s h l).m.reg.parityOk = true) ∧ ok (s 2 []) 2 ∧ ok (s 1 []) 1 ∧ ok (s 1 (l false 0 1)) 1 ∧ ok (s 1 (l false 2 (scTile 0))) 1 ∧ ok (s 1 (l false 2 1)) 1 ∧
    ok (s 1 (l true 0 (scTile 0))) 1 ∧ ok (s 1 (l true 0 0xFFFF)) 1 ∧ ok (s 1 (l true 0 1)) 1 ∧ scTile 0 ≠ 1 ∧
    (let t := (s 1 (l false 0 1)).on fun m => { m with sc := tset m.sc 1 { block := .chsend 3 1 } }
     ok t 1 ∧ t.m.reg.parityOk = true ∧ (t.m.s 1).block = .chsend 3 1 ∧ p.sender = some 1) := by
  refine ⟨fun _ _ => rfl, ?_⟩; unfold ScAt; decide +kernel
theorem witness_ChannelTimeoutsAndMessages :
    (let ch : Chan := { aChan with waiting := [⟨some 0, []⟩] }
     let s := chSt 0 { block := .chsend 1 1 } [(1, ch)]
     s.m.reg.parityOk = true ∧ (s.m.s 0).block = .chsend 1 1 ∧ tget? s.m.chan ((s.m.s 0).ctx * 16384 + 1) = some ch ∧ (∃ x ∈ ch.waiting, x.sender = some 0)) ∧
    (∀ p ∈ [([(1, aChan)], 1), ([(1, { aChan with closed := true })], 1), ([], 1), ([], 2)],
      let g : Msg := ⟨0, p.2, [], 0, 0⟩
      let s := (chSt 0 {} p.1).on fun m => { m with msgs := [g] }
      s.m.msgs[0]? = some g ∧ s.m.reg.parityOk = true ∧ s.m.noneLeft (fun u _ _ => u == g.core) = true ∧ s.m.run? g.ctx = some { cmd0 with cr := cmd0.cr + 2 * 2 ^ 98 } ∧ nChan (cmd0.cr + 2 * 2 ^ 98) = 2) := by decide +kernel

theorem witness_IcpLock :
    (let w := enc 0x2D 1 0 0 0
     let s (i : Icp) : State := (scSt w {} {}).on fun m => { m with icp := i }
     ScAt (s {}) 0 w 0x2D ∧ ScAt (s { holder := some 0 }) 0 w 0x2D ∧ ScAt (s { load := some (1, 0) }) 0 w 0x2D ∧ ScAt (s { holder := some 1 }) 0 w 0x2D) ∧
    ScAt (scSt (enc 0x2F 0 0 0 0) {} {}) 0 (enc 0x2F 0 0 0 0) 0x2F ∧ ({ holder := some 63, breakOf := some 63 } : Icp).breakOf = some 63 := by
  unfold ScAt; decide +kernel
/-- S-core 0 with an ICPLOAD record, the lock, a region of tiles 17 and 32, and a partial image at 0x1000. -/
def icpSt (x : Nat) (img : List Byte) (i : Icp) (regions : List Nat) : State :=
  (scSt (enc 0x2E 1 2 0 0) { g := [(2, 0x30000)], data := mwrite 0 [] 0 (natLE 32 x) } {}).on fun m =>
    { m with mem := mwrite 0 [] 0x1000 img, icp := i, img := { m.img with regions := regions } }
/-- A partial image of one frame of slide 1 of tile 32. -/
def onePart : List Byte := natLE 64 (0x5241504B + 2 ^ 32) ++ natLE 64 (32 + 2 ^ 11)
set_option synthInstance.maxSize 2000 in
theorem witness_IcpRequests :
    let w := enc 0x2E 1 2 0 0
    let held : Icp := { holder := some 0 }
    let reg := [2 ^ tileBit 32 + 2 ^ 768]
    let ok (s : State) : Prop := ScAt s 0 w 0x2E ∧ (s.gr 0 (fld w 20 16)).toNat = 0x30000
    let form (s : State) : Prop := let x := leNat (mread 0 (s.m.s 0).data (0x30000 - 0x30000) 32)
      fld x 71 64 ≤ 1 ∧ fld x 63 48 = 0 ∧ fld x 79 75 = 0 ∧ fld x 95 80 = 0 ∧ fld x 255 128 = 0
    let load := icpSt 0x1000 onePart held reg
    let outside := icpSt 0x1000 onePart held []
    let com := icpSt (2 ^ 64 + 2 ^ 73 + 5 * 2 ^ 96) [] held [2 ^ 768]
    (∀ s ∈ [icpSt 0 [] {} [], icpSt (2 * 2 ^ 64) [] held [], load, outside, icpSt 0x1000 onePart { held with load := some (1, 0) } reg, com],
      s.readable (s.m.s 0).ctx) ∧
    ok (icpSt 0 [] {} []) ∧ (icpSt 0 [] {} []).m.icp.holder ≠ some 0 ∧
    ok (icpSt (2 * 2 ^ 64) [] held []) ∧ ¬ form (icpSt (2 * 2 ^ 64) [] held []) ∧
    ok load ∧ form load ∧ headBad (load.m.rdn 0x1000 64) = false ∧ fld (load.m.rdn 0x1000 64) 63 32 = 1 ∧ fld (load.m.rdn 0x1000 64) 95 64 = 0 ∧
      mapped 0x1000 64 = true ∧ mapped 0x1000 (piPay 1 0 + 1088) = true ∧ load.m.loadCode 0 0x1000 false = 0 ∧
    ok outside ∧ form outside ∧ outside.m.loadCode 0 0x1000 false ≠ 0 ∧
    ok (icpSt 0x1000 onePart { held with load := some (1, 0) } reg) ∧ load.m.icp.load = none ∧ com.m.icp.load = none ∧
    ok com ∧ form com ∧ com.m.regionOf 0 = some 0 ∧ tget? com.m.icp.pend 0 = none ∧ tget? com.m.icp.quiet 0 = none ∧
      allTiles.all (fun i => !inRegion (2 ^ 768) i || !com.m.scopeBad (2 ^ 768) i) = true := by
  unfold ScAt; decide +kernel
theorem witness_IcpLoadEnds :
    let f := 17 + 2 ^ 10 + 191 * 2 ^ 11
    let g := 32 + 2 ^ 11
    let st' (f : Nat) (pay : List Byte) : State := (icpSt 0 pay { load := some (0, 0x1000), frames := [f] } [2 ^ tileBit 17 + 2 ^ tileBit 32 + 2 ^ 768]).on fun m =>
      { m with sc := [(0, { block := .icp 1 })] }
    let s := st' f
    let e := st' g (natLE 64 g)
    (s []).m.icp.load = some (0, 0x1000) ∧ (s []).m.regionOf 0 = some 0 ∧ 0x1000 + (s []).m.icp.bytes.length + 1088 * 1 ≤ 0x012000000000 ∧
    (∀ d, d < 6 → (s []).m.sleeps d = false) ∧ (∀ mt, mt < 288 → (s []).m.tenOk mt (tenOf (s []).m.icp.ctx) = true) ∧ (s []).sound ∧ (s []).still ∧
    (∀ d, d < 6 → e.m.sleeps d = false) ∧ (∀ mt, mt < 288 → e.m.tenOk mt (tenOf e.m.icp.ctx) = true) ∧ e.sound ∧ e.still ∧
    e.m.icp.load = some (0, 0x1000) ∧ e.m.regionOf 0 = some 0 ∧ faProg g = false ∧ g < 2 ^ 32 ∧ leNat (mread 0 e.m.mem 0x1000 64) = g ∧ tget? e.m.icp.quiet 0 = none ∧
    (e.m.tput (faTile g) ((e.m.t (faTile g)).putFrame g (mread 0 e.m.mem (0x1000 + 64) 1024))).slidesCode [8 * faTile g + faSlide g] e.m.icp.depths = 0 ∧
    tget? (s (natLE 64 f)).m.icp.quiet 0 = none ∧
    leNat (mread 0 (s []).m.mem 0x1000 8) ≠ f ∧ faProg f = true ∧ f < 2 ^ 32 ∧ leNat (mread 0 (s (natLE 64 f)).m.mem 0x1000 64) = f ∧
    ((s (natLE 64 f)).m.tput (faTile f) (((s (natLE 64 f)).m.t (faTile f)).putFrame f (mread 0 (s (natLE 64 f)).m.mem (0x1000 + 64) 1024))).slidesCode []
      (s (natLE 64 f)).m.icp.depths = 0 := by decide +kernel

end Sys2Proof.Tests
end

