-- ==== Sys2Proof/Tests/WitnessEngines.lean ====
section
/-! SUPPORT. States and operands that meet the hypotheses of the engine statements, clause by clause. -/

namespace Sys2Proof.Tests
set_option Elab.async false
open Sys2Proof Sys2Proof.Machine

/-- A module whose tile k stands as t, with command 0 running. -/
def tileSt (k : Nat) (t : Tile) : State :=
  st fun m => { m with tile := [(k, t)], safe := { m.safe with ctx := [(0, { state := 1, run := some cmd0 })] } }
/-- A fetched descriptor of command 0. -/
def dsc (raw : Nat) : Desc := { seq := 0, lid := 0, idx := 0, addr := 0, raw := raw, ctx := 0 }
/-- A queue that holds descriptor d, of a list of one. -/
def qu (d : Desc) : Eng := { buf := [d], lists := [{ id := 0, base := 0, count := 1, chan := 1, ctx := 0, fetched := 1 }] }
/-- The head of a queue can start at once. -/
abbrev CanStart (s : State) (tile q : Nat) (d : Desc) : Prop :=
  (s.m.e tile q).buf.find? (fun d => !d.started) = some d ∧ (s.m.e tile q).paused = false ∧
  (∀ x ∈ (s.m.e tile q).buf, x.started = true → hKind x.raw ≠ 0x41) ∧
  ((s.m.e tile q).buf.filter (fun x => x.started)).length ≤ 47 ∧ hDep d.raw = false ∧ hWaitCnt d.raw = 0 ∧
  (s.m.run? d.ctx).isSome = true ∧ s.m.quietTile tile = false
/-- A 7-deep signal on semaphore 3 in a header of a kind. -/
def sig (kind : Nat) : Nat := kind + 3 * 2 ^ 19 + 7 * 2 ^ 24

theorem witness_DescriptorBurst :
    let l : DList := { id := 4, base := 32, count := 20, chan := 1, ctx := 0, fetched := 2 }
    let s := (tileSt 32 { eng := [(3, { lists := [l] })] }).on fun m => { m with mem := mwrite 0 [] 96 ((List.range 18).flatMap fun _ => natLE 32 1) }
    kindOf 32 = .mcore ∧ (s.m.e 32 3).lists.find? (fun l => decide (l.fetched < l.count)) = some l ∧ (s.m.e 32 3).buf.length ≤ 48 ∧
    l.base % 32 = 0 ∧ 16 = min 16 (l.count - l.fetched) ∧ l.base + 32 * l.count ≤ 0x012000000000 ∧ s.readable l.ctx ∧
    (∀ i < 16, ∀ r ∈ (s.m.chk 32 3).named (leNat (mread 0 s.m.mem (l.base + 32 * (l.fetched + i)) 32)), mapped r.1 r.2 = true) ∧
    (∀ i < 16, descErr (s.m.chk 32 3) (leNat (mread 0 s.m.mem (l.base + 32 * (l.fetched + i)) 32)) = 0) := by decide +kernel
theorem witness_SynchronisationDescriptors :
    (∀ x ∈ [sig 0x01, 0x01, 0x41], let s := tileSt 112 { eng := [(0, qu (dsc x))] }
      CanStart s 112 0 (dsc x)) ∧
    hKind (sig 0x01) = 0x01 ∧ hSigCnt (sig 0x01) = 7 ∧ hSigCnt 0x01 = 0 ∧ hKind 0x41 = 0x41 ∧
    (∀ x ∈ [sig 0x41 + 3 * 2 ^ 32, 0x41], let d := { dsc x with started := true }
      let s := tileSt 112 { eng := [(0, qu d)] }
      (s.m.e 112 0).buf = [d] ∧ hKind d.raw = 0x41 ∧ s.m.quietAt 112 0 (fld d.raw 34 32) = true) ∧
    hSigCnt (sig 0x41 + 3 * 2 ^ 32) = 7 ∧ 3 ≤ fld (sig 0x41 + 3 * 2 ^ 32) 34 32 ∧
    (let d := dsc (0x01 + 2 ^ 30)
     let s := tileSt 112 { eng := [(0, qu d)] }
     (s.m.e 112 0).buf = [d] ∧ d.started = false ∧ hDep d.raw = true ∧ (s.m.e 112 0).dep ≠ some d.seq ∧ d.wait = 0) := by decide +kernel
/-- Transfers of 64 bytes: within HBM, to host memory, and from a stream whose sink endpoint 0 the active slide 0 binds. -/
def xHbm : Nat := 0x10 + 4096 * 2 ^ 80 + 64 * 2 ^ 136
def xHost : Nat := xHbm + 4 * 2 ^ 132
def xSink : Nat := xHbm + 2 * 2 ^ 128
def xSinkWin : Nat := xSink + 3 * 2 ^ 132
theorem witness_TransferMovesBytes :
    (∀ p ∈ [(3, xHbm), (0, xHbm), (3, xHost), (0, xSink), (0, xSinkWin)], let d := dsc p.2
      let s := tileSt 32 { frames := mwrite 0 [] 192 (natLE 8 (2 ^ 14)), slide := [(0, 1)], eng := [(p.1, qu d)] }
      CanStart s 32 p.1 d ∧ (s.m.t 32).mc.round = false ∧ hKind d.raw = 0x10 ∧ transferErr (s.m.chk 32 p.1) d.raw = 0 ∧ s.sound ∧
      Mem.wfD 0 s.m.mem = true ∧ Mem.wfD 0 s.m.hmem = true ∧ tConv d.raw = false ∧ 0 < tLen d.raw ∧ d.seq < 2 ^ 60 ∧ (∀ u ∈ s.m.upd, u.core ≠ 32) ∧
      (∀ x ∈ (s.m.e 32 p.1).buf, x.writesLater = false) ∧ s.m.awake (tDie 32) (tSrc d.raw) (tLen d.raw) = true ∧
      (tDm d.raw = 3 → s.m.windowBusy 32 p.1 true (winSpan (tDst d.raw) (tLen d.raw)) = false) ∧ (p.2 = xHbm → s.m.mustWait 32 (tDst d.raw) (tLen d.raw) = false)) ∧
    (tSm xHbm = 0 ∧ tDm xHbm = 0 ∧ tSrc xHbm + tLen xHbm ≤ 0x012000000000 ∧ tDst xHbm + tLen xHbm ≤ 0x012000000000) ∧
    (tSm xHost = 0 ∧ tDm xHost = 4 ∧ tSrc xHost + tLen xHost ≤ 0x012000000000) ∧ tSm xSink = 2 ∧ tDm xSink ≠ 1 ∧ tSm xSinkWin = 2 ∧ tDm xSinkWin = 3 := by decide +kernel
theorem witness_TransferCompletes :
    ∀ x ∈ [xHbm, xHbm + sig 0, xSink], let d := { dsc x with started := true, off := 64 }
    let s := tileSt 32 { eng := [(0, qu d)] }
    (s.m.e 32 0).buf.find? (fun d => d.seq == 0) = some d ∧ hKind d.raw = 0x10 ∧ (tSm d.raw = 2 → tLen d.raw ≤ d.off) ∧ d.data = [] ∧ d.rem = 0 ∧
    (∃ l ∈ (s.m.e 32 0).lists, (s.m.e 32 0).lists = [l] ∧ l.id = d.lid ∧ l.signalled + 1 = l.count ∧ l.chan ≠ 0xFFFF) := by decide +kernel
theorem witness_CompletionMessageLayout :
    let l : DList := { id := 0, base := 2 ^ 48 - 32, count := 65535, chan := 1, ctx := 0 }
    (1023 : Nat) < 1024 ∧ (3 : Nat) < 4 ∧ l.count < 65536 ∧ l.base < 2 ^ 48 := by decide
/-- A matrix segment of FP32 by FP32 (format 3): 1 row, 1 column, K steps, with FIRST and LAST. -/
def xSeg (k : Nat) : Nat := 0x21 + 3 * 2 ^ 32 + 3 * 2 ^ 36 + 2 ^ 40 + 2 ^ 41 + 512 * 2 ^ 101 + 128 * 2 ^ 165 + k * 2 ^ 185
/-- A drain descriptor for it that stores FP32 at the base of memory tile 0 with extension record at offset 4096. -/
def xDrain : Nat := 0x22 + 3 * 2 ^ 32 + 1 * 2 ^ 115 + spBase * 2 ^ 147 + 4096 * 2 ^ 215
/-- A block of that segment. -/
def aBlk : Blk := { segs := [(0, xSeg 300)] }
set_option synthInstance.maxSize 2000 in
theorem witness_MatrixDescriptorsStart :
    (let d := dsc (xSeg 300)
     let s := tileSt 32 { eng := [(1, qu d)] }
     let c := (s.m.t 32).mc
     CanStart s 32 1 d ∧ hKind d.raw = 0x21 ∧ c.pass.src = [] ∧ c.round = false ∧ c.breaks d.raw = false ∧ mFirst d.raw = true ∧
     c.nxt = none ∧ c.blk = none) ∧
    (let d := dsc (xSeg 300 - 2 ^ 40)
     let s := tileSt 32 { eng := [(1, qu d)], mc := { opened := true, afmt := 3, bfmt := 3, rows := 1, cols := 1, blk := some aBlk } }
     let c := (s.m.t 32).mc
     CanStart s 32 1 d ∧ hKind d.raw = 0x21 ∧ c.pass.src = [] ∧ c.round = false ∧ c.breaks d.raw = false ∧ mFirst d.raw = false ∧
     c.nxt = none ∧ c.blk = some aBlk) ∧
    (let d := dsc (xSeg 300)
     let s := tileSt 32 { eng := [(1, qu d)], mc := { opened := true } }
     let c := (s.m.t 32).mc
     CanStart s 32 1 d ∧ hKind d.raw = 0x21 ∧ c.pass.src = [] ∧ c.round = false ∧ c.breaks d.raw = true ∧ s.m.run? d.ctx = some cmd0 ∧
     cmd0.outcome = 0 ∧ d.addr < 2 ^ 48) ∧
    (let d := dsc xDrain
     let s := tileSt 32 { eng := [(2, qu d)], mc := { prev := some aBlk } }
     let c := (s.m.t 32).mc
     CanStart s 32 2 d ∧ hKind d.raw = 0x22 ∧ s.sound ∧ s.still ∧ c.prev = some aBlk ∧ c.taken = none ∧
     blockErr (s.m.chk 32 2) d.raw (mA aBlk.shape) (mB aBlk.shape) aBlk.k (mCols aBlk.shape) = 0) := by decide +kernel
theorem open_memory_tile (s : State) (h : s.m.img.memTiles = []) (mt ten : Nat) : s.m.tenOk mt ten = true := by
  simp [Mod.tenOk, Mod.resident, Mod.memByte, h, tget, tget?, bitAt]
/-- The drain descriptor of the witness above reads its extension record alone, from an open and awake memory tile. -/
theorem witness_MatrixDescriptorsStart_records :
    let s := tileSt 32 { eng := [(2, qu (dsc xDrain))], mc := { prev := some aBlk } }
    (∀ mt ten, s.m.tenOk mt ten = true) ∧
    ∀ a n, (a, n) = (homeAddr 32 0 (fld xDrain 236 215), 64) ∨ bitAt (s.m.xrec 32 xDrain) 312 = true ∧
      (a, n) = (fld (s.m.xrec 32 xDrain) 175 128, 128) → mapped a n = true ∧ s.m.awake (unitOf 32) a n = true := by
  refine ⟨fun mt ten => open_memory_tile _ rfl mt ten, ?_⟩
  rintro a n (h | ⟨h, -⟩)
  · cases h; decide +kernel
  · exact absurd h (by decide +kernel)
/-- The first 256 steps of a segment, and its last 44. -/
theorem witness_ChunkLoads : ∀ k ∈ [0, 256],
    let s := tileSt 32 { mc := { blk := some aBlk, pass := { src := [(0, xSeg 300)], ldK := k } } }
    let c := (s.m.t 32).mc
    c.pass.src = [(0, xSeg 300)] ∧ c.pass.half.length ≤ 1 ∧ s.sound ∧ s.still ∧ c.pass.ldK < mK (xSeg 300) ∧ c.pass.ldK = k ∧
    (∀ h ∈ homesOf 32, ∀ ten, s.m.tenOk (mtOf h) ten = true) := by
  intro k hk
  refine ⟨rfl, by decide +revert, by decide +revert +kernel, by decide +revert +kernel, ?_, rfl, fun h _ ten => open_memory_tile _ rfl _ ten⟩
  revert k; decide +kernel
theorem witness_CellTakesAProduct :
    (({} : Cell).hi = none ∧ ({} : Cell).lo = none ∧ ({} : Cell).spill = false ∧ ({} : Cell).anc = none ∧ ({} : Cell).fmin = none ∧
      ({} : Cell).fmax = none ∧ ({} : Cell).win = 0) ∧
    (let c : Cell := { anc := some 4, fmin := some 0, fmax := some 4, win := 2 ^ 63, acc := true }
     c.hi = none ∧ c.lo = none ∧ c.spill = false ∧ c.anc = some 4 ∧ c.fmin = some 0 ∧ c.fmax = some 4 ∧ (0 : Int) ≤ 4 ∧ (4 : Int) ≤ 4 ∧
      63 < max (4 : Int) 64 - min 0 64 ∧ max (4 : Int) 63 - min 0 63 ≤ 63) := by decide
/-- Block 0 with its only chunk loaded, in its first pass. -/
def passSt (p : Pass) : State :=
  tileSt 32 { mc := { blk := some { segs := [(0, xSeg 2)] }, pass := { p with half := [⟨[(0, 0x3F800000)], [(0, 0x40000000)], 2, 0, true, true⟩] } } }
set_option synthInstance.maxSize 2000 in
theorem witness_MatrixPasses :
    (let s := passSt {}
     let c := (s.m.t 32).mc
     c.target = some { segs := [(0, xSeg 2)] } ∧ c.pass.half = [⟨[(0, 0x3F800000)], [(0, 0x40000000)], 2, 0, true, true⟩] ∧
     c.pass.running = false ∧ c.pass.later = []) ∧
    (let s := passSt { running := true, cells := [(0, { n := 1 })] }
     let c := (s.m.t 32).mc
     c.target = some { segs := [(0, xSeg 2)] } ∧ c.pass.running = true ∧ 0 ∈ c.live (xSeg 2) ∧ (c.cell 0).n < 2) ∧
    (let s := passSt { running := true, cells := [(0, { n := 2, acc := true, win := 2 ^ 63, anc := some 3 })] }
     let c := (s.m.t 32).mc
     c.target = some { segs := [(0, xSeg 2)] } ∧ c.pass.running = true ∧ c.pass.kind = 0 ∧ c.pass.recs = [] ∧
     c.pass.pj + 1 < sliceCount (mB (xSeg 2)) ∧ (∀ o ∈ c.live (xSeg 2), (c.cell o).n = 2 ∧ (c.cell o).spill = false)) := by decide +kernel
set_option synthInstance.maxSize 2000 in
theorem witness_FixUnitDrains :
    ∀ stalled ∈ [false, true], ∀ r ∈ [(⟨0, 0, 0, 0, 1, false, 0⟩ : DrainRec), ⟨0, 0, -(3 * 2 ^ 64), 2, 8, true, 1⟩],
    let s := tileSt 32 { mc := { blk := some aBlk, pass := { recs := [r, r], stalled := stalled } } }
    let c := (s.m.t 32).mc
    c.pass.recs = r :: [r] ∧ [r] ≠ [] ∧ c.round = false ∧ c.prev = none ∧ c.blk = some aBlk ∧ aBlk.closed = false ∧ aBlk.id = r.blk ∧
    c.pass.stalled = stalled ∧ ((r.acc = false ∨ r.win = 0) ∨ (r.acc = true ∧ r.win ≠ 0 ∧ r.win.natAbs < 2 ^ 88 ∧ tget {} aBlk.tanks r.out = {})) := by
  decide +kernel
set_option synthInstance.maxSize 2000 in
theorem witness_BlockFinalises :
    (let b : Blk := { segs := [(0, xSeg 2)], tanks := [(0, { w := 3, a := -2, empty := false })], closed := true }
     let s := tileSt 32 { eng := [(2, qu { dsc xDrain with started := true })], mc := { prev := some b, taken := some (0, xDrain) } }
     let c := (s.m.t 32).mc
     let xr := s.m.xrec 32 xDrain
     c.prev = some b ∧ c.taken = some (0, xDrain) ∧ c.round = false ∧ (∀ p ∈ b.tanks, p.2.mode ≠ 3) ∧ b.written = [] ∧ b.slots = [] ∧
     mRows b.shape = 1 ∧ mCols b.shape = 1 ∧ (∀ p ∈ b.segs, mHold p.2 = false) ∧ bitAt xr 312 = false ∧ dExport xDrain = false ∧ bitAt xr 314 = false ∧
     (tget {} b.tanks 0).mode ≤ 1 ∧ mapped (fld xr 47 0) 4 = true ∧ fld xr 47 0 < 0x012000000000 ∧ s.m.mustWait 32 (fld xr 47 0) 4 = false ∧
     mA b.shape ≠ 4 ∧ mB b.shape ≠ 4 ∧
     (let u : State := s.on fun m => { m with mem := mwrite 0 m.mem (homeAddr 32 0 4096) (natLE 6 (spBase + 64)) }
      targetOf (fld (u.m.xrec 32 xDrain) 47 0) = .sp 0 ∧ mapped (fld (u.m.xrec 32 xDrain) 47 0) 4 = true ∧ bitAt (u.m.xrec 32 xDrain) 312 = false ∧
      bitAt (u.m.xrec 32 xDrain) 314 = false) ∧ targetOf (fld xDrain 194 147) = .sp 0 ∧ mapped (fld xDrain 194 147) (fmtSize (dFmt xDrain)) = true ∧
     fld xDrain 194 147 % 64 + fmtSize (dFmt xDrain) ≤ 64 ∧ 0 < fmtSize (dFmt xDrain)) ∧
    (let d := { dsc (xDrain + sig 0) with started := true }
     let s := tileSt 32 { eng := [(2, qu d)], mc := { fin := [0] } }
     (s.m.t 32).mc.fin = [0] ∧ (s.m.e 32 2).buf.find? (fun d => d.seq == 0) = some d ∧
     hSigCnt d.raw ≠ 0) := by decide +kernel
/-- An addition of one FP32 element: X at 0, Y at 64, the result at 128, of memory tile 0. -/
def xVec : Nat := 0x31 + 1 * 2 ^ 32 + 3 * 2 ^ 38 + 3 * 2 ^ 42 + 3 * 2 ^ 50 + 64 * 2 ^ 93 + 128 * 2 ^ 155 + 1 * 2 ^ 186
set_option synthInstance.maxSize 2000 in
theorem witness_VectorDescriptors :
    (let d := dsc xVec
     let s := tileSt 112 { eng := [(1, qu d)] }
     CanStart s 112 1 d ∧ hKind xVec = 0x31 ∧ descErr (s.m.chk 112 1) d.raw = 0 ∧ s.sound ∧ s.still ∧ 112 < 1024 ∧
     s.m.awake (tDie 112) (spBase + fld xVec 92 62) 4 = true ∧ s.m.awake (tDie 112) (spBase + fld xVec 123 93) 4 = true ∧
     vOp xVec = 1 ∧ vN xVec = 1 ∧ bitAt xVec 61 = false ∧ spBase + fld xVec 185 155 = mtBase 0 + (spBase + fld xVec 185 155) % 0x400000 ∧
     (spBase + fld xVec 185 155) % 64 + fmtSize 3 ≤ 64 ∧ fld xVec 41 38 = 3 ∧ fld xVec 45 42 = 3 ∧ fld xVec 53 50 = 3 ∧
     mapped (spBase + fld xVec 92 62) 4 = true ∧ mapped (spBase + fld xVec 123 93) 4 = true ∧ 0 < fmtSize 3) ∧
    (∀ mt ten, (tileSt 112 { eng := [(1, qu (dsc xVec))] }).m.tenOk mt ten = true) ∧
    (∀ p ∈ [(0, 0), (8, spBase + 64)], let d := { dsc (xVec + sig 0) with started := true, maxw := p.1, maxa := p.2 }
     let s := tileSt 112 { eng := [(1, qu d)] }
     (s.m.e 112 1).buf.find? (fun d => d.seq == 0) = some d ∧ hKind d.raw = 0x31 ∧ (d.maxw = 0 ∨ mapped d.maxa 4 = true) ∧
     (d.maxw ≠ 0 → targetOf d.maxa = .sp 0) ∧ hSigCnt d.raw ≠ 0) := by
  exact ⟨by decide +kernel, fun mt ten => open_memory_tile _ rfl mt ten, by decide +kernel⟩
/-- The largest finite FP32 value. -/
theorem witness_FormatRoundTrip : (3 : Nat) < 6 ∧ 0x7F7FFFFF < 2 ^ (8 * fmtSize 3) ∧ (decodeNum 3 0x7F7FFFFF).isNaN = false := by decide +kernel
theorem witness_RecordSumIsExact :
    let x : Epr := ⟨3, -4, false, false, false, false⟩
    let y : Epr := ⟨-5, 2, false, true, false, true⟩
    (-4 : Int) ≤ x.a ∧ (-4 : Int) ≤ y.a ∧ (-4 : Int) ≤ Epr.empty.a ∧ (-4 : Int) ≤ 0 := by decide

end Sys2Proof.Tests
end

