-- ==== Sys2Proof/Tests/WitnessFabric.lean ====
section
/-! SUPPORT. States and operands that meet the hypotheses of the memory-tile, fabric and Groomer statements, clause by clause. -/

namespace Sys2Proof.Tests
set_option Elab.async false
open Sys2Proof Sys2Proof.Machine

/-- The same with die 0 held by context 0. -/
def heldSt (k : Nat) (t : Tile) : State :=
  (tileSt k t).on fun m => { m with dies := lset m.dies 0 { dieAt 2 with ctx := some 0 } }

/-! Memory tiles. -/

/-- A line write of bytes 64 to 66 that waits at bank 1 of memory tile 0 through the fabric. -/
def aReq : LineReq := ⟨2, 0, 32, 2, 0, 0, 0, spBase + 64, [1, 2, 3], none⟩
theorem witness_MemoryTileServes :
    (∀ b ∈ [0, 0x81], let s := (tileSt (mtTile 0) { reqs := [aReq] }).on fun m => { m with img := { m.img with memTiles := [(0, b)] } }
      let q := s.m.t (mtTile 0)
      q.gated = false ∧ q.ungating = false ∧ q.reqs = [aReq] ∧ aReq.addr / 64 % 16 = 1 ∧ aReq.port ≤ 2 ∧ aReq.own = 0 ∧
      s.sound ∧ s.m.sleeps (0 / 72) = false ∧ aReq.upd = none ∧
      s.m.tenOk 0 aReq.ten = decide (b = 0) ∧ Mem.wfD 0 s.m.mem = true ∧ s.m.run? aReq.ctx = some cmd0 ∧ cmd0.outcome = 0) ∧
    (∀ op ≤ 1, let r := { aReq with bytes := [9, 0, 0, 0], upd := some op }
      let s := tileSt (mtTile 0) { reqs := [r] }
      let q := s.m.t (mtTile 0)
      s.sound ∧ q.gated = false ∧ q.ungating = false ∧ s.m.sleeps (0 / 72) = false ∧ q.reqs = [r] ∧ r.addr / 64 % 16 = 1 ∧ r.port ≤ 2 ∧ r.own = 0 ∧
      s.m.tenOk 0 r.ten = true ∧ Mem.wfD 0 s.m.mem = true ∧ r.upd = some op ∧ r.bytes.length = 4) ∧
    (let r := { aReq with own := 3 }
     let q : Tile := { reqs := [r], slot := mwrite 0 [] 8 (natLE 1 0x03) }
     ∃ cycle < 16, r.own ≠ 0 ∧ q.slotEntry 1 (cycle % 16) = r.own) := by decide +kernel
theorem witness_MemorySideUpdates :
    ∀ u ∈ [(⟨0, 0, 7, 0, 32, 2⟩ : Upd), ⟨1, 0x02FFFFFFFFFC, 2 ^ 32 - 1, 0, 32, 2⟩, ⟨0, spBase, 7, 0, 32, 2⟩],
    let s := st fun m => { m with upd := [u], mem := mwrite 0 [] spBase [9] }
    s.m.upd[0]? = some u ∧ u.op ≤ 1 ∧ u.val < 2 ^ 32 ∧ Mem.wfD 0 s.m.mem = true ∧ s.sound ∧
    s.m.tenOk 0 (tenBy u.core u.ctx) = true := by decide +kernel
theorem witness_MemoryUpkeep :
    (let q : Tile := { wback := [spBase, spBase + 64, spBase + 1088] }
     q.wback[1]? = some (spBase + 64) ∧ (spBase + 64) / 64 % 16 = 1 ∧ (∀ j < 1, ∀ b ∈ q.wback[j]?, b / 64 % 16 ≠ 1)) ∧
    (let s := st fun m => { m with mon := { m.mon with inject := some (1, spBase + 287 * 0x400000 + 0x3FFFF8) } }
     s.m.mon.inject = some (1, spBase + 287 * 0x400000 + 0x3FFFF8) ∧
     0x080000000000 + 287 * 0x400000 ≤ spBase + 287 * 0x400000 + 0x3FFFF8 ∧ spBase + 287 * 0x400000 + 0x3FFFF8 + 8 ≤ 0x080000000000 + (287 + 1) * 0x400000) ∧
    ((tileSt (mtTile 0) { gated := true, ungating := true }).m.t (mtTile 0)).ungating = true ∧
    (let s := st fun m => { m with dies := lset m.dies 0 (dieAt 1) }
     (s.m.die (0 / 72)).st = 1 ∧ (s.m.t (mtTile 0)).gated = false ∧ (s.m.t (mtTile 0)).reqs = [] ∧ (s.m.t (mtTile 0)).slot = []) := by
  decide +kernel

/-! Tokens and steering. -/

/-- A valid route entry: stream, input, queue, action, output, next queue. -/
def rt (stream inp q act out nxt : Nat) : List Byte :=
  natLE 8 (stream + inp * 2 ^ 13 + q * 2 ^ 16 + act * 2 ^ 19 + out * 2 ^ 22 + nxt * 2 ^ 25 + 2 ^ 28)
/-- A data token of stream n and epoch 0 whose first byte is b. -/
def tok (n : Nat) (b : Byte) : Token := ⟨b :: List.replicate 63 0, n, 0, false⟩
/-- A tile in slide 0 with route entries and steering unit 0, and tokens at its queues 0 and 1. -/
def routeTile (rs : List (List Byte)) (unit : Nat) (qs : Tbl (List Token)) : Tile :=
  { frames := mwrite 0 (mwrite 0 [] 128 (natLE 16 unit)) 1024 rs.flatten, slide := [(0, 1)], queues := qs }
/-- A sink transfer of 100 bytes that has taken 64 and feeds a remote destination. -/
def sinkD : Desc := { dsc (0x10 + 2 * 2 ^ 128 + 3 * 2 ^ 132 + 100 * 2 ^ 136) with started := true, off := 64 }
set_option synthInstance.maxSize 2000 in
theorem witness_TokenForwards :
    let k := tok 5 1
    let qs : Tbl (List Token) := [(0, [k, k])]
    let base (s : State) (tile : Nat) : Prop := s.m.mon.fltState = 0 ∧
      (s.m.t tile).commit = none ∧ (s.m.t tile).q 0 = k :: [k] ∧ (s.m.t tile).discard.contains k.epoch = false ∧ (s.m.t tile).usable k.epoch = true
    (let s := heldSt 85 (routeTile [] 0 qs)
     base s 85 ∧ (s.m.t 85).entry k.epoch 0 k.stream = none ∧ s.m.run? (s.m.ctxAt 85) = some cmd0 ∧ cmd0.outcome = 0 ∧ (s.m.e 85 3).buf = []) ∧
    (let s := heldSt 85 (routeTile [rt 5 0 0 0 1 7] 0 qs)
     base s 85 ∧ (∃ r ∈ (s.m.t 85).entry k.epoch 0 k.stream, rAction r = 0 ∧ neighbour 85 (rOut r) = some (86, 3) ∧ 86 ≠ 85 ∧
      ((s.m.t 86).q (8 * 3 + rNext r)).length < queueCap 86 (8 * 3 + rNext r)) ∧ (s.m.e 85 3).buf = [] ∧ (s.m.t 85).sigs = []) ∧
    (let s := heldSt 0 (routeTile [rt 5 0 0 0 3 7] 0 qs)
     base s 0 ∧ (∃ r ∈ (s.m.t 0).entry k.epoch 0 k.stream, rAction r = 0 ∧ neighbour 0 (rOut r) = none) ∧ (s.m.e 0 3).buf = [] ∧
      (s.m.t 0).sigs = []) ∧
    (let s := heldSt 85 { routeTile [rt 5 0 0 1 2 0] 0 qs with eng := [(0, { buf := [{ sinkD with raw := sinkD.raw + 2 * 2 ^ 32 }] })] }
     base s 85 ∧ (∃ r ∈ (s.m.t 85).entry k.epoch 0 k.stream, rAction r = 1 ∧
      (s.m.e 85 0).buf.find? (fun d => d.started && hKind d.raw == 0x10 && tSm d.raw == 2 && tSrc d.raw % 8 == rOut r && decide (d.off < tLen d.raw))
        = some { sinkD with raw := sinkD.raw + 2 * 2 ^ 32 }) ∧ k.epoch = (s.m.t 85).cur ∧ (s.m.t 85).changing = none ∧ s.m.quietTile 85 = false ∧
      k.commit = false ∧ k.data.length = 64 ∧ (s.m.e 85 3).buf = [] ∧ (s.m.t 85).sigs = [] ∧ tDm (sinkD.raw + 2 * 2 ^ 32) = 3) := by
  decide +kernel
/-- A fork (kind 3), and a switch (kind 1) whose selector is queue 1; both feed stream 7 alone, at local queue 33. -/
def uFork : Nat := 3 + 7 * 2 ^ 24
def uSwitch : Nat := 1 + 1 * 2 ^ 3 + 7 * 2 ^ 24
set_option synthInstance.maxSize 2000 in
theorem witness_SteeringFires :
    let routes := [rt 5 0 0 2 0 0, rt 6 0 1 2 0 0, rt 7 4 1 0 1 0]
    let base (s : State) : Prop := s.m.mon.fltState = 0 ∧ (s.m.t 85).changing = none ∧ s.m.quietTile 85 = false ∧ (s.m.e 85 3).buf = [] ∧ (s.m.t 85).commit = none ∧
      (s.m.t 85).sigs = []
    (let s := heldSt 85 (routeTile routes uFork [(0, [tok 5 1])])
     let w := (s.m.t 85).unit 0 0
     base s ∧ uKind w = 3 ∧ fld w 22 21 = 0 ∧ (s.m.t 85).shead (uDq0 w) = some (tok 5 1) ∧ (tok 5 1).commit = false ∧ uDq0 w < 32 ∧
     (s.m.t 85).localQ (fld w 36 24) = some 33 ∧ ((s.m.t 85).q 33).length < queueCap 85 33) ∧
    (∀ b : Byte, b = 0 ∨ b = 1 → let s := heldSt 85 (routeTile routes uSwitch [(0, [tok 5 1]), (1, [tok 6 b])])
     let w := (s.m.t 85).unit 0 0
     base s ∧ uKind w = 1 ∧ uCq w < 32 ∧ uDq0 w < 32 ∧ uCq w ≠ uDq0 w ∧ (s.m.t 85).shead (uDq0 w) = some (tok 5 1) ∧
     (s.m.t 85).shead (uCq w) = some (tok 6 b) ∧ (tok 6 b).commit = false ∧ (uOuts w).length = 1 ∧ (nth 0 (tok 6 b).data 0).toNat = b.toNat ∧
     (s.m.t 85).localQ (nth 0 (uOuts w) 0) = some 33 ∧ ((s.m.t 85).q 33).length < queueCap 85 33 ∧
     s.m.run? (s.m.ctxAt 85) = some cmd0 ∧ cmd0.outcome = 0) := by
  refine ⟨by decide +kernel, fun b h => ?_⟩
  rcases h with rfl | rfl <;> decide +kernel
set_option synthInstance.maxSize 2000 in
theorem witness_SlidesChange :
    (let s := heldSt 85 { slide := [(0, 1), (1, 2)], want := some 1 }
     let q := s.m.t 85
     s.m.mon.fltState = 0 ∧ q.want = some 1 ∧ q.changing = none ∧ q.slState 1 ≠ 0 ∧ q.holds q.cur = false ∧ q.frozen = false ∧ s.m.quietTile 85 = false) ∧
    (let s := heldSt 85 { slide := [(0, 1), (1, 2)], changing := some 1 }
     let q := s.m.t 85
     s.sound ∧ q.changing = some 1 ∧ q.steps = [] ∧ q.sigs = [] ∧ (s.m.e 85 3).buf = [] ∧ q.commit = none) ∧
    (let d := dsc (0x40 + 31 * 2 ^ 32)
     let s := heldSt 85 { frames := mwrite 0 [] (256 + 124) [4], slide := [(0, 1), (1, 1)], eng := [(2, qu d)] }
     let q := s.m.t 85
     s.m.mon.fltState = 0 ∧ q.frozen = false ∧ q.changing = none ∧ CanStart s 85 2 d ∧ hKind d.raw = 0x40 ∧ fld (q.prog' q.home (fld d.raw 36 32)) 1 0 = 0 ∧
     fld (q.prog' q.home (fld d.raw 36 32)) 4 2 = 1 ∧ q.cur = 0) ∧
    (∀ x ∈ [0x40, 0x40 + sig 0], let d := dsc x
     let s := heldSt 85 { slide := [(0, 1), (1, 1)], eng := [(2, qu d)] }
     let q := s.m.t 85
     s.m.mon.fltState = 0 ∧ q.frozen = false ∧ q.changing = none ∧ CanStart s 85 2 d ∧ hKind d.raw = 0x40 ∧ fld (q.prog' q.home (fld d.raw 36 32)) 1 0 = 0 ∧
     fld (q.prog' q.home (fld d.raw 36 32)) 4 2 = q.cur ∧ q.sigs = []) ∧
    (let d := dsc 0x40
     let s := heldSt 85 { slide := [(0, 1), (1, 1)], eng := [(2, qu d)], changing := some 1 }
     let q := s.m.t 85
     s.m.mon.fltState = 0 ∧ q.frozen = false ∧ q.changing ≠ none ∧ CanStart s 85 2 d ∧ hKind d.raw = 0x40) ∧
    (let s := heldSt 85 { frames := mwrite 0 [] 4096 [1], slide := [(0, 1), (1, 2)], commit := some { c := 9, arrived := true, fence := true } }
     s.m.mon.fltState = 0 ∧ (s.m.t 85).maySwitch 85 = true ∧ s.m.quietTile 85 = false ∧ s.m.icp.pend = []) := by decide +kernel
theorem witness_CommitArrives : let s := heldSt 85 { commit := some { c := 9 } }
    s.m.mon.fltState = 0 ∧ (s.m.t 85).commit = some { c := 9 } ∧ (s.m.e 85 3).buf = [] := by decide +kernel

/-! The Groomer. -/

theorem witness_GroomerMaster : let bs : List Byte := List.replicate 256 0
    let z : List XVal := List.replicate 8 (.fin false 3 (-2))
    bs.length = 256 ∧ (14 : Nat) < 15 ∧ z.length = 8 ∧
    xadd (xadd (decodeNum 3 (blkSlot bs 14 0)) (decodeNum 3 (blkSlot bs 14 1))) (nth .nan z 7) = .fin false 3 (-2) := by decide +kernel
theorem witness_SealedBlockChecks : (List.replicate 256 (7 : Byte)).length = 256 ∧ 2 ^ 48 - 1 < 2 ^ 48 := by decide +kernel
/-- An entry of 30 parameters with a finite check, its state at the base of LPDDR-5X, its rule and its hold in memory tile 0. -/
def gRaw : Nat := 0x020000000000 + 30 * 2 ^ 64 + 2 ^ 289 + spBase * 2 ^ 448 + (spBase + 4096) * 2 ^ 704 + 0xFFFF * 2 ^ 304 + 0xFFFF * 2 ^ 384
def gEnt : GEnt := { entry := 0, step := 5, ctx := 0, raw := gRaw }
/-- Die 0's Groomer, with GRM_HALT as given. -/
def grmSt (g : Groomer) (halt : Nat) (f : Mod → Mod) : State :=
  st fun m => f { m with grm := [(0, { g with ctx := some 0 })], reg := { m.reg with v := [(0x800048, BitVec.ofNat 32 halt)] },
                         safe := { m.safe with ctx := [(0, { state := 1, run := some cmd0 })] } }
theorem witness_GroomerTakesAGradient : ∀ halt ∈ [0, 1],
    let s := grmSt { cur := some gEnt, inq := [0, 0] } halt id
    let g := s.m.g 0
    s.sound ∧ s.m.mustWait (groomerId 0) (gHold gEnt.raw + 4 * gEnt.got) 4 = false ∧ g.cur = some gEnt ∧ g.inq = 0 :: [0] ∧ gEnt.got + 1 ≠ gN gEnt.raw ∧ s.m.ers.coll = [] ∧
    s.m.gHalted 0 = decide (halt = 1) ∧ gMatrix gEnt.raw = false ∧ gCheck gEnt.raw ≠ 0 ∧ gHold gEnt.raw % 4 = 0 ∧
    targetOf (gHold gEnt.raw + 4 * gEnt.got) = .sp 0 ∧ mapped (gHold gEnt.raw + 4 * gEnt.got) 4 = true := by decide +kernel
/-- A block sealed at the step, at the step before, at another step, and one with a bad code. -/
theorem witness_GroomerBlockArrives :
    let z : List Byte := List.replicate 256 0
    ∀ b ∈ [(blkSeal z 5 false, 0), (blkSeal z 4 false, 1), (blkSeal z 9 false, 2), (z, 3)],
    let s := grmSt { cur := some gEnt } 0 fun m => { m with mem := mwrite 0 [] 0x020000000000 b.1 }
    let g := s.m.g 0
    let bs := mread 0 s.m.mem 0x020000000000 256
    g.ctx = some 0 ∧ s.m.gNextBlock 0 = some (.block 0x020000000000 5 none) ∧ s.sound ∧ (∀ u ∈ s.m.upd, u.core ≠ groomerId 0) ∧ mapped 0x020000000000 256 = true ∧
    0x020000000000 + 256 ≤ spBase ∧ s.m.awake 0 0x020000000000 256 = true ∧ g.win.length + g.stage.length < 32768 ∧ g.stopped = false ∧ s.m.gHalted 0 = false ∧
    s.m.run? 0 = some cmd0 ∧ cmd0.outcome = 0 ∧ g.mats = [] ∧ g.closing = none ∧ 0x020000000000 + 256 < 2 ^ 48 ∧
    blkOk bs = decide (b.2 < 3) ∧ (b.2 = 0 → blkStep bs = 5) ∧ (b.2 = 1 → (blkStep bs + 1) % 2 ^ 48 = 5) ∧
    (b.2 = 2 → blkStep bs ≠ 5 ∧ (blkStep bs + 1) % 2 ^ 48 ≠ 5) := by decide +kernel
/-- A block of the entry ahead, entry 0 of a schedule of one at 0x2_0001_0000. -/
theorem witness_GroomerBlockArrives_ahead :
    let s := grmSt {} 0 fun m => { m with mem := mwrite 0 [] 0x020000010000 (natLE 128 gRaw),
                                          img := { m.img with groomer := [(0, 0x020000010000 + 2 ^ 64)], memTiles := [(0, 0x80)] } }
    let g := s.m.g 0
    g.ctx = some 0 ∧ s.m.gNextBlock 0 = some (.block 0x020000000000 0 (some 0)) ∧ s.sound ∧ (∀ u ∈ s.m.upd, u.core ≠ groomerId 0) ∧ mapped 0x020000000000 256 = true ∧
    s.m.awake 0 0x020000000000 256 = true ∧
    (let b := fld (s.m.gRec 0) 47 0 + 128 * 0
     mapped b 128 = true ∧ b + 128 ≤ spBase ∧ s.m.awake 0 b 128 = true ∧ entryErr s.m.resident 0 (s.m.gEntry 0 0) = 0) ∧
    g.win.length + g.stage.length < 32768 ∧ g.stopped = false ∧ s.m.gHalted 0 = false ∧ g.mats = [] ∧ g.closing = none := by decide +kernel
theorem witness_GroomerWritesABlock :
    ∀ maxw ∈ [none, some (0, 7), some (spBase, 7)], let p := 0x02FFFFFFFFFE
    let w : GWrite := ⟨0x020000000000, List.replicate 256 7, [(p, 65535)], maxw⟩
    let s := grmSt { stage := [w] } 0 id
    let g := s.m.g 0
    g.stage = w :: [] ∧ w.bytes.length = 256 ∧ w.wc = [(p, 65535)] ∧ w.addr + 256 ≤ p ∧ mapped p 2 = true ∧ p + 2 ≤ spBase ∧
    mapped w.addr 256 = true ∧ w.addr + 256 ≤ spBase ∧ s.m.mustWait (groomerId 0) w.addr 256 = false ∧
    s.sound ∧ s.m.mustWait (groomerId 0) p 2 = false ∧ (∀ u ∈ s.m.upd, u.core ≠ groomerId 0) ∧ (∀ x ∈ w.maxw, mapped x.1 4 = true) ∧
    s.m.mustWait (groomerId 0) 0 4 = false ∧ g.mats = [] ∧
    g.closing = none ∧ Mem.wfD 0 s.m.mem = true ∧ (65535 : Nat) < 65536 := by decide +kernel
theorem witness_GroomerGoWord : ∀ held ∈ [0, 1, 2],
    let e : GEnt := { gEnt with phase := 3, held := held, raw := gRaw + 2 ^ 288 + (spBase + 8192) * 2 ^ 896 }
    let s := grmSt { mats := [e], go := [spBase + 8192] } 0 fun m => { m with mem := mwrite 0 [] (spBase + 8192) [5] }
    let g := s.m.g 0
    g.mats = [e] ∧ e.entry = 0 ∧ e.phase = 3 ∧ g.go.contains (goOf e.raw) = true ∧ s.m.rdn (goOf e.raw) 4 = e.step % 2 ^ 32 ∧ s.sound ∧ s.still ∧
    mapped (goOf e.raw) 4 = true ∧ s.m.awake 0 (goOf e.raw) 4 = true ∧ g.win = [] ∧ e.put < gBlocks e.raw ∧ e.held ≠ 3 ∧
    ruleErr s.m.rdn 0 (gRule e.raw) (gMatrix e.raw) = 0 ∧ s.m.awake 0 (gRule e.raw) 256 = true := by decide +kernel
theorem witness_GroomerCheckVerdict :
    (let x := 2 * 2 ^ 289 + 0x40000000 * 2 ^ 320
     let t : Epr := ⟨5, 0, false, false, false, false⟩
     gCheck x = 2 ∧ gCheck (2 ^ 289) ≠ 2 ∧ ({ t with nan := true } : Epr).nan = true ∧ t.nan = false ∧ t.pinf = false ∧ t.ninf = false ∧
     (∃ m a, decodeNum 3 (fld x 351 320) = .fin false m a ∧ -50 ≤ 2 * a ∧ m = 2 ^ 23) ∧ 0 ≤ t.w ∧ (-50 : Int) ≤ t.a) ∧
    (∀ v ∈ [0, 1], let c : Coll := { raw := 0, space := 1, by_ := 0, fin := true, out := natLE 96 (v * 2 ^ 640) }
     let e : GEnt := { gEnt with phase := 1 }
     let s := grmSt { mats := [e] } 0 fun m => { m with ers := { m.ers with coll := [(0, [c])] } }
     let g := s.m.g 0
     (s.m.colls 0).findIdx? (fun c => c.space == 1 && c.by_ == 0 && c.entry == 0 && c.fin) = some 0 ∧ (s.m.colls 0)[0]? = some c ∧ g.mats = [e] ∧
     e.entry = 0 ∧ e.phase = 1 ∧ gMatrix e.raw = false ∧ g.win = [] ∧ e.put < gBlocks e.raw ∧
     gCheck e.raw ≠ 0 ∧ s.sound ∧ s.still ∧ gVerdict e.raw (Epr.ofNat 7 (leNat c.out)) = v ∧ ruleErr s.m.rdn 0 (gRule e.raw) false = 0 ∧
     s.m.awake 0 (gRule e.raw) 256 = true) := by
  refine ⟨⟨by decide +kernel, by decide +kernel, by decide, by decide, by decide, by decide, ⟨2 ^ 23, -22, by decide +kernel, by decide, by decide⟩, by decide, by decide⟩, by decide +kernel⟩
/-- Replicas that agree and replicas that do not. -/
theorem witness_DigestResolves : ∀ d1 ∈ [5, 4],
    let c : Coll := { raw := 0, space := 2, by_ := 0, fin := true, out := natLE 8 d1 ++ natLE 8 (2 ^ 64 - 1 - 5 + (if d1 = 5 then 0 else 5)) }
    let e : GEnt := { gEnt with phase := 5 }
    let s := grmSt { digs := [e] } 0 fun m => { m with ers := { m.ers with coll := [(0, [c])] } }
    let g := s.m.g 0
    s.m.reg.parityOk = true ∧ g.digs = [e] ∧ e.entry = 0 ∧ e.phase = 5 ∧ e.entry + 1 ≠ s.m.gEntries 0 ∧ g.closing = none ∧
    (s.m.colls 0).findIdx? (fun c => c.space == 2 && c.by_ == 0 && c.entry == 0 && c.fin) = some 0 ∧ (s.m.colls 0)[0]? = some c ∧
    ((leNat (c.out.take 8) &&& leNat (c.out.drop 8) = 0) ↔ d1 = 5) := by decide +kernel

end Sys2Proof.Tests
end

