-- ==== Sys2Proof/Tests/WitnessLinks.lean ====
section
/-! SUPPORT. States and operands that meet the hypotheses of the port, window and collective statements, clause by clause. -/

namespace Sys2Proof.Tests
set_option Elab.async false
open Sys2Proof Sys2Proof.Machine

/-- Module 1 of domain 9 with an Ersan state; MID 7 is routed by port 3. -/
def ersSt (f : Ersan → Ersan) (g : Mod → Mod) : State :=
  st fun m => g { m with ers := f { m.ers with mid := 1, domain := 9, route := [(7, 2 ^ 64 + 2 ^ 3)] },
                         safe := { m.safe with ctx := [(0, { state := 1, run := some cmd0 })] } }
/-- The port p in a state. -/
def portSt (p : Nat) (x : Port) : State := ersSt (fun e => { e with port := [(p, x)] }) id
/-- A flit of a type from MID 7 to this module in order. -/
def fl (typ : Nat) : Flit := mkFlit typ 1 1 7
def up : Port := { st := 2 }
/-- Two flits sent and not yet acknowledged. -/
def upRetry (k : Nat) : Port := { st := 2, txSeq := 2, retry := [fl 0x21, { fl 0x21 with lseq := 1 }], resent := [k, k], owed := [(2, 40)], used := [(1, 2)] }
theorem witness_PortComesUp :
    (∀ d ∈ [0, 2], let s := (portSt 31 { st := 1 }).on fun m => { m with dies := lset m.dies 5 (dieAt d) }
      (31 : Nat) < 32 ∧ s.m.reg.parityOk = true ∧ s.m.ld.active = true ∧ s.m.portOn 31 = true ∧ (s.m.port 31).st = 1 ∧ (s.m.port 31).txq = [] ∧ s.m.ers.mid = 1 ∧
      1 < 1024 ∧ 7 ≠ s.m.ers.mid ∧ 8 ≠ s.m.ers.domain ∧ 9 = s.m.ers.domain) := by decide +kernel
theorem witness_PortGoesDown : let s := portSt 31 (upRetry 0)
    (31 : Nat) < 32 ∧ s.m.reg.parityOk = true ∧ (s.m.port 31).st = 2 ∧ s.hostFree := by decide +kernel
theorem witness_PortTrainsAndRestores :
    (∀ x, (portSt 31 x).m.reg.parityOk = true) ∧ ((portSt 31 {}).m.port 31).st = 0 ∧ (portSt 31 {}).m.ld.active = true ∧ (portSt 31 {}).hostFree ∧ (portSt 31 {}).m.portOn 31 = true ∧
    ((portSt 31 { st := 1 }).m.port 31).st ≤ 1 ∧
    (∀ k ∈ [2, 3], ((portSt 31 { st := k, gone := true }).m.port 31).gone = true ∧ ((portSt 31 { st := k, gone := true }).m.port 31).st = k ∧
      ((portSt 31 { st := k, gone := true }).m.port 31).txq = [] ∧ (portSt 31 { st := k, gone := true }).hostFree) ∧
    (let s := portSt 31 { st := 3 }
     (s.m.port 31).st = 3 ∧ (s.m.die (4 + 31 / 16)).st ≠ 0 ∧ (s.m.port 31).txq = []) :=
  ⟨fun _ => rfl, by decide +kernel⟩
/-- A flit of slot 0 waits on the old port, and one crosses the dies, while slot 15 moves. -/
theorem witness_SlotMoves : let g : Flit := { fl 0x21 with dst := 7, src := 9 }
    let s := ersSt (fun e => { e with moving := [(16 * 7 + 15, 4)], port := [(3, { st := 2, txq := [(none, g)] })], crossing := [(4, none, g)] }) id
    tget? s.m.ers.moving (16 * 7 + 15) = some 4 ∧ (s.m.slots 7).length = 16 ∧ s.m.reg.parityOk = true ∧
    (s.m.port (nth 0 (s.m.slots 7) 15)).txq = [(none, g)] ∧ s.m.ers.crossing ≠ [] ∧
    (∀ q ∈ (s.m.port (nth 0 (s.m.slots 7) 15)).txq, q.2.dst = 7 → slotOf q.2 ≠ 15) ∧
    (∀ x ∈ s.m.ers.crossing, x.2.2.dst = 7 → slotOf x.2.2 ≠ 15) := by decide +kernel
theorem witness_LinkLayer :
    (∀ k ∈ [14, 15], let s := portSt 0 (upRetry k)
      s.m.reg.parityOk = true ∧ s.m.mon.fltState = 0 ∧ s.m.ld.phase ≠ 7 ∧ (s.m.port 0).st = 2 ∧ (s.m.port 0).txq = [] ∧
      ((k = 14 ∧ ∀ j ∈ (s.m.port 0).resent, j + 1 < 16) ∨ (k = 15 ∧ ∃ j ∈ (s.m.port 0).resent.drop 1, 16 ≤ j + 1))) ∧
    (fl 0).typ = 0 ∧ ({ fl 0 with fec := 3 } : Flit).typ = 0 ∧ 0 < ({ fl 0 with fec := 3 } : Flit).fec ∧ ({ fl 1 with lack := 0 } : Flit).typ = 1 ∧
    (let x := upRetry 0
     (∀ j, j < 2 → tget 0 x.owed j = 0) ∧ 0 < tget 0 x.owed 2) := by decide +kernel
theorem routed_7 (f : Ersan → Ersan) (hr : (f { mid := 1, domain := 9, route := [(7, 2 ^ 64 + 2 ^ 3)] }).route = [(7, 2 ^ 64 + 2 ^ 3)])
    (hm : (f { mid := 1, domain := 9, route := [(7, 2 ^ 64 + 2 ^ 3)] }).moving = [])
    (hl : (ersSt f id).m.live 3 = true) : (ersSt f id).routed 7 := by
  refine ⟨?_, fun k => ?_⟩
  · simp only [Mod.reachable, Mod.routeRaw]
    have h : (ersSt f id).m.ers.route = [(7, 2 ^ 64 + 2 ^ 3)] := hr
    rw [h]
    have : primaries (tget 0 [(7, 2 ^ 64 + 2 ^ 3)] 7) ++ alternates (tget 0 [(7, 2 ^ 64 + 2 ^ 3)] 7) = [3] := by decide +kernel
    rw [this]; simp [hl, tget, tget?, bitAt]; decide
  · have h : (ersSt f id).m.ers.moving = [] := hm
    rw [h]; rfl
/-- The input port and the port of the way stand on one I/O die: no other die is crossed. -/
theorem wayClear_own (s : State) (p q vl : Nat) (h : 4 + p / 16 = portDie q) : s.wayClear (4 + p / 16) vl q := by
  intro f _ d hd; simp [wayDies, h] at hd
theorem witness_FlitsAreForwarded :
    (∀ h ∈ [1, 2], let f := { fl 0x21 with dst := 7, src := 5, hops := h }
      let s := portSt 0 up
      s.m.reg.parityOk = true ∧ s.m.mon.fltState = 0 ∧ s.m.ld.phase ≠ 7 ∧ (s.m.port 0).st = 2 ∧ f.typ = 0x21 ∧ f.lseq = (s.m.port 0).rxSeq ∧
      f.dst ≠ s.m.ers.mid ∧ (s.m.port 0).txq = [] ∧ 4 + 0 / 16 = portDie (nth 0 (s.m.slots f.dst) (slotOf f))) ∧
    (portSt 0 up).routed 7 ∧ (portSt 16 up).routed 7 ∧
    (let f := { fl 0x21 with dst := 7, src := 5, hops := 2 }
     let s := (portSt 16 up).on fun m => { m with dies := lset m.dies 0 (dieAt 0) }
     s.m.reg.parityOk = true ∧ s.m.mon.fltState = 0 ∧ s.m.ld.phase ≠ 7 ∧ (s.m.port 16).st = 2 ∧ f.lseq = (s.m.port 16).rxSeq ∧ f.dst ≠ s.m.ers.mid ∧
     (s.m.port 16).txq = [] ∧ (∃ d ∈ wayDies (4 + 16 / 16) (nth 0 (s.m.slots f.dst) (slotOf f)) f, s.m.sleeps d = true)) ∧
    (let s := (portSt 16 up).on fun m => { m with dies := lset m.dies 0 (dieAt 0) }
     s.m.reachable 7 = true ∧ s.m.ers.moving = []) :=
  ⟨by decide +kernel, routed_7 _ rfl rfl (by decide +kernel), routed_7 _ rfl rfl (by decide +kernel), by decide +kernel, by decide +kernel⟩
/-- Window 4095: one line of memory tile 0 for any source, readable, writable, accumulating 6-byte forms; open. -/
def aWin : Nat := spBase + 0xFFFF * 2 ^ 80 + 7 * 2 ^ 73 + 6 * 2 ^ 76 + 2 ^ 128
def winSt (w : Nat) : State := ersSt (fun e => { e with port := [(0, up)], win := [(4095, w)] }) id
set_option synthInstance.maxSize 2000 in
theorem witness_WindowRead :
    (∀ w ∈ [0, aWin], (let s := winSt w
      let f := { fl 0x10 with keyA := 4095, keyC := 32 }
      let r : RxReq := ⟨f.src, f.txn, 0, f.keyA % 4096, f.keyB % 2 ^ 25, f.keyC % 8192, 4 + 0 / 16, [], 0⟩
      s.hearsFlit 0 0x10 f ∧ s.m.reg.parityOk = true ∧ 4 + 0 / 16 = portDie (nth 0 (s.m.slots f.src) 6) ∧ f.src ≠ s.m.ers.mid ∧
      (s.m.denial r = 0 ↔ w = aWin) ∧ s.m.awake (4 + 0 / 16) (fld aWin 47 0 + 32 * r.off) r.len = true ∧
      mapped (fld aWin 47 0 + 32 * r.off) r.len = true ∧ s.sound ∧ s.still ∧ 0 < r.len ∧ r.len ≤ 224)) ∧
    (∀ g : Flit, g.typ = 0x11 ∨ g.typ = 0x15 → g.dst = 7 → g.keyA = 4095 → g.keyB = 0 → slotOf g = 6) ∧ (winSt aWin).routed 7 ∧ (winSt 0).routed 7 := by
  refine ⟨by unfold State.hearsFlit; decide +kernel, fun g h1 h2 h3 h4 => ?_, routed_7 _ rfl rfl (by decide +kernel), routed_7 _ rfl rfl (by decide +kernel)⟩
  rcases h1 with h1 | h1 <;> simp [slotOf, h1, h2, h3, h4]
set_option synthInstance.maxSize 2000 in
/-- The last line of HBM, and the first of scratchpad. -/
theorem witness_WindowWrites :
    (∀ k ∈ [1, 2], ∀ b ∈ [0x012000000000 - 32, spBase],
      let s := winSt (aWin - spBase + b)
      let f := { fl (if k = 1 then 0x12 else 0x13) with keyA := 4095, payload := List.replicate 32 5 }
      let r : RxReq := ⟨f.src, f.txn, k, f.keyA % 4096, f.keyB % 2 ^ 25, f.payload.length, 4 + 0 / 16, f.payload, 0⟩
      let a := fld (s.m.winRaw r.win) 47 0 + 32 * r.off
      s.hearsFlit 0 (if k = 1 then 0x12 else 0x13) f ∧ f.last = true ∧ f.payload ≠ [] ∧ f.src ≠ s.m.ers.mid ∧
      4 + 0 / 16 = portDie (nth 0 (s.m.slots f.src) 6) ∧ s.m.ers.acks = [] ∧ s.sound ∧ s.still ∧
      (∀ r ∈ s.m.ers.rx, ¬ (r.src = f.src ∧ r.txn = f.txn ∧ r.kind = k)) ∧
      s.m.denial r = 0 ∧ a = b ∧ mapped a 32 = true ∧ s.m.awake (4 + 0 / 16) a 32 = true ∧ Mem.wfD 0 s.m.mem = true ∧
      f.payload.length = 32 ∧ fld (s.m.winRaw r.win) 79 76 = 6 ∧ (b = spBase → targetOf a = .sp 0 ∧ a % 64 + 32 ≤ 64) ∧
      (b < spBase → a + 32 ≤ spBase)) ∧
    (∀ g : Flit, g.typ = 0x14 → g.dst = 7 → g.keyA = 4095 → g.keyB = 0 → slotOf g = 6) ∧
    (∀ w, (ersSt (fun e => { e with port := [(0, up)], win := [(4095, w)] }) id).routed 7) := by
  refine ⟨by unfold State.hearsFlit; decide +kernel, fun g h1 h2 h3 h4 => ?_, fun w => routed_7 _ rfl rfl (by simp only [Mod.live]; rfl)⟩
  simp [slotOf, h1, h2, h3, h4]
/-- An access of core 32 to window 5 of MID 7, and its transfer of 64 bytes to HBM. -/
def aTxn (kind : Nat) : Txn := { id := 3, kind := kind, addr := 7 * 2 ^ 38 + 5 * 2 ^ 26, len := 64, core := 32, q := 3, seq := 0, ctx := 0, data := List.replicate 32 1, got := 32 }
set_option synthInstance.maxSize 2000 in
theorem witness_RemoteReplies :
    ∀ kind ∈ [0, 1], let x := aTxn kind
    let d := { dsc (xHbm + 3 * 2 ^ 128) with started := true, rem := 1, dst := [(4096, 64)] }
    let s := ersSt (fun e => { e with port := [(0, up)], txns := [x] }) fun m => { m with tile := [(32, { eng := [(3, qu d)] })] }
    let f (typ : Nat) : Flit := { fl typ with txn := 3, payload := List.replicate 32 2, keyC := 0x0B12 }
    s.sound ∧ s.m.txnOf (f 0x11) = some x ∧ x.id = (f 0x11).txn ∧ s.m.ers.txns.find? (fun y => y.id == (f 0x11).txn) = some x ∧
    (s.m.e x.core x.q).buf.find? (fun d => d.seq == x.seq) = some d ∧ s.m.run? x.ctx = some cmd0 ∧ cmd0.outcome = 0 ∧
    (∀ t ∈ [0x11, 0x14, 0x15], s.hearsFlit 0 t (f t)) ∧ x.got + (f 0x11).payload.length = x.len ∧ x.data.length = x.got ∧ tSm d.raw = 3 ∧ tDm d.raw = 0 ∧
    tConv d.raw = false ∧ d.dst = [(tDst d.raw, tLen d.raw)] ∧ x.core < 1024 ∧ s.m.mustWait x.core (tDst d.raw + x.off) x.len = false ∧ s.m.upd = [] ∧
    x.off + x.len ≤ tLen d.raw ∧ tDst d.raw + tLen d.raw ≤ 0x012000000000 ∧ Mem.wfD 0 s.m.mem = true ∧ 0 < x.len ∧
    x.addr < 2 ^ 48 := by unfold State.hearsFlit; decide +kernel
theorem witness_PartnerFault : (portSt 0 up).hearsFlit 0 0x30 (fl 0x30) ∧ (portSt 0 up).m.reg.parityOk = true := by unfold State.hearsFlit; decide +kernel
/-- The selected entries and the data registers, well formed and not. -/
theorem witness_WindowAndRouteCommands :
    -- a well-formed route whose primary ports 5 trains and 6 is about to
    (let s := (ersSt (fun e => { e with port := [(5, { st := 1, lost := true }), (6, { lost := true })] }) id).on fun m =>
        { m with reg := { m.reg with v := [(0x600240, 7), (0x600244, 2 ^ 5 + 2 ^ 6), (0x60024C, 1), (0x600198, 1)] } }
     let rd := s.m.dataRegs 0x600244 4
     s.hostFree ∧ s.m.reg.parityOk = true ∧ routeBad rd = false ∧ s.m.ers.moving = [] ∧ primaries rd = [5, 6] ∧ (s.m.port 5).st = 1 ∧
     (s.m.port 6).st = 0 ∧ s.m.portOn 6 = true ∧ s.m.live 5 = false ∧ s.m.live 6 = false) ∧
    (∀ bad ∈ [0, 1], let s := (winSt (aWin + 20 * 2 ^ 96)).on fun m =>
        { m with reg := { m.reg with v := [(0x600200, 0xFFF), (0x600204, BitVec.ofNat 32 bad), (0x600208, 0), (0x600240, 7), (0x60024C, BitVec.ofNat 32 bad)] } }
      s.hostFree ∧ s.m.reg.parityOk = true ∧ s.m.winRaw (s.m.rg 0x600200 % 4096) < 2 ^ 256 ∧ winBad (s.m.dataRegs 0x600204 8) = decide (bad = 1) ∧
      bitAt (s.m.winRaw (s.m.rg 0x600200 % 4096)) 128 = true ∧ s.m.routeRaw (s.m.rg 0x600240 % 1024) < 2 ^ 128 ∧
      routeBad (s.m.dataRegs 0x600244 4) = decide (bad = 1) ∧ s.m.ers.moving = [] ∧ bitAt (s.m.winRaw 4095) 128 = true ∧
      fld (s.m.winRaw 4095) 127 96 ≠ 0) := by decide +kernel

/-! Collectives. -/

/-- Post area of S-core 1 on IOD[0] with PRODUCER p and one descriptor; context 0 holds die 0; group 5 is absent. -/
def postSt (p raw : Nat) : State :=
  ersSt (fun e => { e with notice := [1] }) fun m =>
    let b := m.bell 1 0
    { m with dies := lset m.dies 0 { dieAt 2 with ctx := some 0 },
             mem := mwrite 0 (mwrite 0 [] b (natLE 4 p)) (b - 0x1000) (natLE 64 raw) }
def aDescr : Nat := 5 + 4 * 2 ^ 8 + 5 * 2 ^ 16 + 77 * 2 ^ 32 + 3 * 2 ^ 306
theorem witness_PostedDescriptors :
    (∀ p ∈ [0, 1, 64, 65], let s := postSt p aDescr
      (64 * 0 + 1) ∈ s.m.ers.notice ∧ (s.m.die (1 / 16)).ctx = some 0 ∧ s.m.ld.started = true ∧ (64 * 0 + 1) ∉ s.m.ers.stopped ∧
      s.m.run? 0 = some cmd0 ∧ cmd0.outcome = 0 ∧ (s.m.rdn (s.m.bell 1 0) 4 + 2 ^ 32 - tget 0 s.m.ers.taken 1) % 2 ^ 32 = p ∧
      s.sound ∧ s.still ∧ (∀ d, d < 6 → s.m.sleeps d = false) ∧ (∀ mt < 288, s.m.tenOk mt (tenOf 0) = true) ∧ s.m.ers.postOff + 0x4000 ≤ 0x400000) ∧
    (let s := postSt 1 aDescr
     let raw := s.m.rdn (s.m.bell 1 0 - 0x1000 + 64 * (0 % 64)) 64
     tget? s.m.ers.group (cGroup raw) = none ∧ collBad raw 1024 = false ∧ cChan raw ≠ 0xFFFF) := by decide +kernel
set_option synthInstance.maxSize 2000 in
theorem witness_CollectiveControlFlits :
    let s := portSt 0 up
    let f (t : Nat) : Flit := { fl t with keyA := 5, keyB := 77, keyC := 5, payload := [1, 0, 0, 0, 0] }
    (∀ t ∈ [0x20, 0x21, 0x22], s.hearsFlit 0 t (f t)) ∧ s.m.reg.parityOk = true ∧
    (let u := ersSt (fun e => { e with port := [(0, up)], dead := [⟨5, 0, 77, true, 0x0B01, 1⟩] }) id
     u.hearsFlit 0 0x20 (f 0x20) ∧ u.m.reg.parityOk = true ∧ u.m.findColl 5 0 77 = none ∧ u.m.isDead 5 0 77 = true) ∧ s.m.findColl 5 0 77 = none ∧ s.m.isDead 5 0 77 = false ∧ s.m.ers.dead = [] ∧ s.m.ers.ready = [] ∧
    fld 5 13 12 = 0 ∧ fld 5 27 26 = 0 := by unfold State.hearsFlit; decide +kernel
/-- A barrier of group 5 = MIDs 1 and 7, on lane 4; and an all-gather of one 4-byte element, of which rank 1 has sent nothing. -/
def collSt (c : Coll) (f : Mod → Mod) : State :=
  ersSt (fun e => { e with port := [(0, up)], group := [(5, 1 + 2 * 2 ^ 10 + 6 * 2 ^ 21)], coll := [(0, [c])] }) f
def aColl (op n : Nat) : Coll := { raw := op + 4 * 2 ^ 8 + 5 * 2 ^ 16 + 77 * 2 ^ 32 + 3 * 2 ^ 64 + n * 2 ^ 106 + 3 * 2 ^ 306, inp := List.replicate (if op = 5 then 16 else 4 * n) 0 }
set_option synthInstance.maxSize 2000 in
theorem witness_CollectiveData :
    (let s := ersSt (fun e => { e with port := [(0, up)], dead := [⟨5, 0, 77, true, 0x0B01, 1⟩] }) id
     let f := { fl 0x23 with keyA := 5, keyB := 77, vl := 4, payload := [1, 2, 3, 4] }
     s.hearsFlit 0 0x23 f ∧ s.m.reg.parityOk = true ∧ s.m.ers.coll = [] ∧ s.m.isDead f.keyA 0 f.keyB = true) ∧
    (let c := aColl 3 2
     let s := collSt c id
     let f := { fl 0x23 with keyA := 5, keyB := 77, vl := 4, payload := [1, 2, 3, 4] }
     let c1 : Coll := { c with rx := tset c.rx f.src (tset (tget [] c.rx f.src) (f.keyC % 2 ^ 48) f.payload) }
     s.hearsFlit 0 0x23 f ∧ s.m.reg.parityOk = true ∧ s.m.ers.coll = [(0, [c])] ∧ s.m.awaits f = some (0, 0) ∧ c.space = 0 ∧ cKind c.raw = 0 ∧ c.feed = [] ∧ c.heard = [] ∧
     c.fin = false ∧ s.m.sleeps 4 = false ∧ cResult c.raw (s.m.algOf (cGroup c.raw)) (s.m.members (cGroup c.raw)).length (s.m.rankIn (cGroup c.raw)) c.inp (s.m.recvOf c1) = none) := by
  unfold State.hearsFlit; decide +kernel
set_option synthInstance.maxSize 2000 in
theorem witness_CollectiveTimersAndEnd :
    (let c := aColl 5 0
     let s := collSt c id
     s.m.reg.parityOk = true ∧ s.m.ers.coll = [(0, [c])] ∧ c.space = 0 ∧ cOp c.raw = 5 ∧ c.fin = false ∧ cKind c.raw = 0 ∧
     (inPlan c.raw (s.m.algOf 5) (s.m.members 5).length (s.m.rankIn 5)).any (fun p => p.1 == 1 && decide ((c.got (nth 0 (s.m.members 5) 1)).length < p.2)) = true) ∧
    (∀ kind ∈ [0, 2], let c := { aColl 5 0 with fin := true, sent := [(7, 16)], raw := (aColl 5 0).raw + kind * 2 ^ 242 + 9 * 2 ^ 428 }
     let s := collSt c fun m => { m with icp := { m.icp with pend := [(63, 9)], hold := [(63, true)] }, img := { m.img with regions := List.replicate 64 (2 ^ 16) } }
     s.m.reg.parityOk = true ∧ s.m.ers.coll = [(0, [c])] ∧ c.space = 0 ∧ c.fin = true ∧ c.feed = [] ∧ s.still ∧ s.m.unsent c.raw = false ∧ cGroup c.raw = 5 ∧ cKind c.raw = kind ∧
     (outPlan c.raw (s.m.algOf 5) (s.m.members 5).length (s.m.rankIn 5)).all (fun p => decide (p.2 ≤ tget 0 c.sent (nth 0 (s.m.members 5) p.1))) = true ∧
     s.m.icp.pend = [(63, fld c.raw 459 428)] ∧ tget false s.m.icp.hold 63 = true ∧
     (∃ i ∈ allTiles, inRegion (nth 0 s.m.img.regions 63) i = true)) := by decide +kernel

end Sys2Proof.Tests
end

