-- ==== Sys2Proof/Tests/WitnessSafelight.lean ====
section
/-! SUPPORT. States and operands that meet the hypotheses of the power, safelight, host and register statements, clause by clause. -/

namespace Sys2Proof.Tests
set_option Elab.async false
open Sys2Proof Sys2Proof.Machine

/-! Power states. -/

theorem witness_IdleTimers : ∀ d < 6,
    (let s := st id
     (s.m.die d).rests 2 = true ∧ s.m.idle d = true ∧ s.m.floorOf d < 2) ∧
    (let s := st fun m => { m with dies := lset m.dies d (dieAt 1) }
     (s.m.die d).rests 1 = true ∧ s.m.idle d = true ∧ s.m.floorOf d = 0 ∧ s.m.winOnSp d = false) ∧
    (let s := st fun m => { m with reg := { m.reg with v := [(0x100010, 0xAAA)] } }
     s.m.reg.parityOk = true ∧ s.m.floorOf d = 2) ∧
    (let s := st fun m => { m with dies := lset m.dies d (dieAt 1), reg := { m.reg with v := [(0x100010, 0x555)] } }
     s.m.reg.parityOk = true ∧ s.m.floorOf d = 1 ∧ s.m.floorOf d ≠ 0) ∧ (st id).m.reg.parityOk = true := by decide +kernel
theorem witness_IdleTimers_window : let s := st fun m => { m with ers := { m.ers with win := [(0, spBase + 2 ^ 128)] } }
    s.m.winOnSp 0 = true := by decide +kernel
theorem witness_PowerEntriesEnd : ∀ d < 6, ∀ k < 2, let s := st fun m => { m with dies := lset m.dies d { dieAt (k + 1) with entering := some k } }
    s.m.dies.length = 6 ∧ (s.m.die d).held = none ∧ (s.m.die d).entering = some k ∧ Mem.wfD 0 s.m.mem = true := by decide +kernel
/-- An I/O die enters DEEP with a flit at one of its ports, and with none. -/
theorem witness_PowerEntriesEnd_flits : ∀ q ∈ [[], [((none : Option Nat), mkFlit 0x21 1 7 1)]],
    let s := st fun m => { m with dies := lset m.dies 5 { dieAt 1 with entering := some 0 }, ers := { m.ers with port := [(31, { st := 2, txq := q })] } }
    s.m.dies.length = 6 ∧ (s.m.die 5).held = none ∧ (s.m.die 5).entering = some 0 ∧
    ((∀ p ∈ s.m.ers.port, 4 + p.1 / 16 = 5 → p.2.txq = []) ↔ q = []) ∧ ((∃ p ∈ s.m.ers.port, 4 + p.1 / 16 = 5 ∧ p.2.txq ≠ []) ↔ q ≠ []) := by
  decide +kernel
theorem witness_DieLeavesDeep : ∀ d < 6, ∀ k ∈ [1, 2], let s := st fun m => { m with dies := lset m.dies d { waking := some k } }
    s.m.dies.length = 6 ∧ (s.m.die d).st = 0 ∧ (s.m.die d).waking = some k ∧ s.m.sleepers = [] ∧ s.m.far = [] ∧ s.m.ers.asleep = [] ∧ s.m.ers.acks = [] ∧ s.m.ers.crossing = [] ∧ s.m.ers.coll = [] ∧ s.m.safe.ctx = [] ∧ Mem.wfD 0 s.m.mem = true := by
  decide +kernel
/-- Die 0 in NAP, used last by tenancy 5, is being woken for command 0. -/
theorem witness_CommandStarts :
    (let r := { cmd0 with phase := 0, launched := false }
     let s := st fun m => { m with dies := lset m.dies 0 { dieAt 1 with waking := some 2, ctx := some 0, tenancy := some 5 },
                                   safe := { m.safe with ctx := [(0, { state := 1, run := some r })] } }
     s.m.dies.length = 6 ∧ s.m.reg.parityOk = true ∧ s.m.run? 0 = some r ∧ r.phase = 0 ∧ r.raised = true ∧
     (crDieList r.cr).all (fun d => ((s.m.die d).st == 1 && (s.m.die d).waking == some 2) || ((s.m.die d).st == 2 && (s.m.die d).entering.isNone)) = true ∧
     0 ∈ crDieList r.cr ∧ 0 ∈ crScList r.cr ∧ 63 ∉ crScList r.cr ∧ (s.m.die 0).tenancy = some 5 ∧ 5 ≠ r.tenancy ∧ s.m.resident (72 * 0 + 71) = false) ∧
    (let s := st fun m => { m with dies := lset m.dies 5 { dieAt 1 with waking := some 2 } }
     s.m.dies.length = 6 ∧ s.m.reg.parityOk = true ∧ s.m.run? 0 = none ∧ (s.m.die 5).ctx = none ∧ (s.m.die 5).st = 1 ∧ (s.m.die 5).waking = some 2) := by decide +kernel

/-! The safelight. -/

/-- A module with the context table at 0x10000 and the bitmap at 0, with a safelight state. -/
def safeSt (x : Safe) (f : Mod → Mod) : State := st fun m => f { m with img := { m.img with ctxTable := 0x10000 }, safe := x }
theorem witness_SafelightPoll :
    (let s := safeSt { mirror := [0, 65535] } id
     s.m.reg.parityOk = true ∧ s.m.ld.started = true ∧ s.m.mon.fltState = 0 ∧ s.m.pw.warm = none ∧ s.m.safe.mirror ≠ [] ∧ s.m.safe.mirror.length ≤ 64 ∧
     s.m.safeReach s.m.img.ctxTable = true ∧ Mem.wfD 0 s.m.mem = true) ∧
    (let s := safeSt { mirror := List.range 65 } id
     s.m.reg.parityOk = true ∧ s.m.ld.started = true ∧ s.m.mon.fltState = 0 ∧ s.m.pw.warm = none ∧ s.m.safe.mirror.Nodup ∧ 64 < s.m.safe.mirror.length) ∧
    State.reset.m.ld.started = false ∧ State.reset.m.reg.parityOk = true := by decide +kernel
/-- The entry of context 0: ring of 16 records at 0x8000, accounting record at 0x4000, PRODUCER 1, CONSUMER 0. -/
def anEntry (state log : Nat) : Nat := state + log * 2 ^ 24 + 2 ^ 32 + 0x8000 * 2 ^ 256 + 0x4000 * 2 ^ 320
set_option synthInstance.maxSize 2000 in
theorem witness_ContextEntryRead : ∀ p ∈ [(1, 4), (1, 3), (0, 4), (0, 3)],
    let s := safeSt { reads := [0], recs := [9] } fun m => { m with mem := mwrite 0 [] 0x10000 (natLE 64 (anEntry p.1 p.2)) }
    let e := s.m.rdn (s.m.ctxAddr 0) 64
    let x := s.m.cx 0
    0 ∈ s.m.safe.reads ∧ s.m.awake 4 (s.m.ctxAddr 0) 64 = true ∧ s.sound ∧ s.still ∧ mapped (s.m.ctxAddr 0) 64 = true ∧
    (∃ k ∈ s.m.safe.recs, k ≠ 0) ∧ Mem.wfD 0 s.m.mem = true ∧ fld e 7 0 = p.1 ∧ bitAt e 96 = false ∧ entryLowBad e = decide (p.2 = 3) ∧
    entryHighBad e = false ∧ 0 ∉ s.m.safe.lru ∧ x.run = none ∧ x.next = none ∧ x.ready = false ∧ fld e 63 32 ≠ fld e 223 192 ∧
    (fld e 63 32 + 2 ^ 32 - fld e 223 192) % 2 ^ 32 ≤ 2 ^ fld e 31 24 ∧ (s.m.safe.ctx.filter (fun p => p.2.ready)).length < 4096 := by decide +kernel
/-- Context 0 as read from that entry. -/
def aCtx (f : Ctx → Ctx) : Tbl Ctx := [(0, f { state := 1, producer := 1, ring := 0x8000, acct := 0x4000 })]
set_option synthInstance.maxSize 2000 in
theorem witness_CommandRecordRead : ∀ raw ∈ [cmd0.cr, 0],
    let s := safeSt { ctx := aCtx fun x => { x with next := some 0 }, recs := [0, 9] } fun m => { m with mem := mwrite 0 [] 0x8000 (natLE 64 raw) }
    let x := s.m.cx 0
    x.next = some 0 ∧ x.nextSt = 0 ∧ x.run = none ∧ s.sound ∧ s.still ∧ 0 ∉ x.marks ∧ s.m.rdn (x.recAddr 0) 64 = raw ∧
    mapped (x.recAddr 0) 64 = true ∧ s.m.awake 4 (x.recAddr 0) 64 = true ∧ badCommand raw = decide (raw = 0) ∧ (∃ k ∈ s.m.safe.recs, k ≠ 0) ∧ s.settled 0 := by
  unfold State.settled; decide +kernel
/-- A command whose reach table at 0x3000 names a list of one SYNC descriptor at 0x2000 for queue 0 of tile 32, in the region of S-core 0. -/
def aReach : Nat := cmd0.cr + 0x3000 * 2 ^ 128
def checkSt (cr : Nat) : State :=
  safeSt { ctx := aCtx fun x => { x with run := some { cmd0 with cr := cr, phase := 0, launched := false, raised := false } }, checks := [0] } fun m =>
    { m with img := { m.img with regions := [2 ^ 768 + 2 ^ 32] },
             dies := lset m.dies 0 { dieAt 1 with ctx := some 0 },
             mem := mwrite 0 (mwrite 0 (mwrite 0 [] 0x2000 [1]) 0x3000 (natLE 64 (2 ^ 64))) 0x3040 (natLE 16 (0x2000 + 2 ^ 48 + 32 * 2 ^ 64)) }
set_option synthInstance.maxSize 2000 in
theorem witness_StartChecksEnd :
    (let s := checkSt aReach
     let r := { cmd0 with cr := aReach, phase := 0, launched := false, raised := false }
     s.still ∧ s.m.safe.checks = 0 :: [] ∧ s.m.run? 0 = some r ∧ s.m.dies.length = 6 ∧ s.sound ∧ (∀ q ∈ s.m.checkReads r.cr, s.m.awake 4 q.1 q.2 = true) ∧
     s.m.acctReach 0 = true ∧ s.m.startBad r.cr ((s.m.cx 0).recAddr r.j) = none) ∧
    (let s := checkSt 1
     let r := { cmd0 with cr := 1, phase := 0, launched := false, raised := false }
     s.still ∧ s.m.safe.checks = 0 :: [] ∧ s.m.run? 0 = some r ∧ s.m.dies.length = 6 ∧ s.m.startBad r.cr ((s.m.cx 0).recAddr r.j) = some (0x0204, 0x8000) ∧
     s.sound ∧ (∀ q ∈ s.m.checkReads r.cr, s.m.awake 4 q.1 q.2 = true) ∧ s.m.acctReach 0 = true ∧
     r.launched = false ∧ s.settled 0 ∧ (s.m.die 0).ctx = some 0) := by unfold State.settled; decide +kernel
/-- Command 0 in a phase with an outcome. -/
def runSt (r : Run) (x : Safe) : State := safeSt { x with ctx := aCtx fun c => { c with run := some r } } id
set_option synthInstance.maxSize 2000 in
theorem witness_DoneReports :
    (let r := { cmd0 with cr := cmd0.cr + 2 }
     let s := runSt r { reports := [0] }
     0 ∈ s.m.safe.reports ∧ s.m.run? (s.m.s 0).ctx = some r ∧ r.phase = 1 ∧ r.outcome = 0 ∧ 0 ∈ crScList r.cr ∧
     (∃ k ∈ crScList r.cr, k ≠ 0 ∧ tget? r.done k = none)) ∧
    (let s := runSt cmd0 { reports := [0] }
     0 ∈ s.m.safe.reports ∧ s.m.run? (s.m.s 0).ctx = some cmd0 ∧ crScList cmd0.cr = [0] ∧ cmd0.done = [] ∧ cmd0.ended = false ∧ s.settled 0) ∧
    -- the last of three S-cores reports: all zero, or the two others' statuses that are not zero
    (∀ p ∈ [(0, 0), (7, 9)], let r := { cmd0 with cr := cmd0.cr + 6, done := [(1, p.1), (2, p.2)] }
     let s := runSt r { reports := [0] }
     let status (k : Nat) : Nat := if k = 0 then ((s.m.s 0).doneSt).getD 0 else (tget? r.done k).getD 0
     0 ∈ s.m.safe.reports ∧ s.m.run? (s.m.s 0).ctx = some r ∧ r.phase = 1 ∧ r.outcome = 0 ∧ 0 ∈ crScList r.cr ∧ crScList r.cr = [0, 1, 2] ∧
     (∀ k ∈ crScList r.cr, k = 0 ∨ (tget? r.done k).isSome = true) ∧ r.ended = false ∧ s.settled 0 ∧
     ((∀ k ∈ crScList r.cr, status k = 0) ∨
      (∃ k ∈ crScList r.cr, status k ≠ 0 ∧ (∀ l ∈ crScList r.cr, l < k → status l = 0) ∧ 7 = status k % 65536))) := by
  unfold State.settled; decide +kernel
set_option synthInstance.maxSize 2000 in
theorem witness_CommandAborts :
    (∀ o ∈ [0, 1], let r := { cmd0 with outcome := o }
     let e : SEvent := ⟨0, 0x0901, 7⟩
     let s := runSt r { events := [e] }
     s.m.safe.events = e :: [] ∧ s.m.run? e.ctx = some r ∧ s.noBlock) ∧
    (let r := { cmd0 with outcome := 2, phase := 2, reason := 0x0901 }
     let s := runSt r {}
     s.m.run? 0 = some r ∧ r.phase = 2 ∧ (∀ x ∈ s.m.ers.txns, x.ctx ≠ 0) ∧ s.settled 0) := by unfold State.settled; decide +kernel

/-! Host accesses. -/

/-- A write by VF 1 of its slice of the bitmap; bits of another slice; a write behind one that waits for a die. -/
theorem witness_WorkBitmapWrite :
    (let s := safeSt {} id
     s.m.hostReach 1 = true ∧ s.m.opened = true ∧ s.m.sleepers = [] ∧ Mem.wfD 0 s.m.mem = true ∧ 8 * 127 ≤ 1023 ∧ 1024 < 8 * 127 + 8 * [(0x80 : Byte), 1].length ∧
     (leNat [(0x80 : Byte), 1]).testBit (1024 - 8 * 127) = true ∧ 1024 / 1024 = 1) ∧
    (let s := safeSt {} fun m => { m with dies := lset m.dies 0 (dieAt 0), sleepers := [{ fn := 0, addr := spBase, len := 4, wr := true, relaxed := false, data := [1, 2, 3, 4] }] }
     (∀ y ∈ s.m.sleepers, y.space = .dev ∧ s.m.hostAwake y = false) ∧ s.m.hostReach 1 = true ∧ s.m.opened = true ∧ ∃ y ∈ s.m.sleepers, y.wr = true) ∧ State.reset.m.opened = false := by decide +kernel
theorem witness_HostBar2 : ∀ d ∈ [2, 0], let s := safeSt {} fun m => { m with dies := lset m.dies 0 (dieAt d) }
    let a := s.m.bar2Base + 0x30000
    s.m.hostReach 0 = true ∧ s.m.opened = true ∧ 0x30000 + 4 ≤ 2 ^ 36 ∧ mapped a 4 = true ∧ s.m.img.bitmap + 8192 ≤ a ∧ s.m.sleepers = [] ∧
    Mem.wfD 0 s.m.mem = true ∧ s.m.awake 4 a 4 = decide (d = 2) ∧ s.sound ∧ s.still := by decide +kernel
theorem witness_RefusedHostAccess : let s := safeSt {} id
    s.m.hostReach 63 = true ∧ s.m.opened = true ∧ s.m.sleepers = [] ∧ s.m.reg.parityOk = true ∧ 2 ^ 32 - 1 < 2 ^ 32 ∧ s.m.vfSize 63 < 2 ^ 32 - 1 + [(7 : Byte)].length ∧ s.m.host.refOpen = true := by
  decide +kernel

/-! Registers. -/

theorem witness_EventRegistersClearOnRead : (st id).hostFree ∧ (31 : Nat) < 32 := by decide +kernel
theorem witness_RegisterWrites :
    (st id).hostFree ∧
    (let s := (st id).on fun m => { m with ld := { m.ld with active := false } }
     s.m.hostReach 0 = true ∧ s.m.sleepers = [] ∧ s.m.opened = false ∧ 6 ≤ 0x600024 / 2 ^ 20) ∧ State.reset.m.hostReach 0 = false := by decide +kernel
theorem witness_RegisterPairs : (st id).hostFree ∧ ∃ t : State, exec (.pairLoRead 0x14) (st id) = .next t ∧
    t.m.hostReach 0 = true ∧ t.m.sleepers = [] :=
  ⟨by decide +kernel, _, rfl, by decide +kernel, by decide +kernel⟩
theorem witness_ConfigurationSpace : let s := (st id).on fun m => { m with pw := { m.pw with d3 := [0] }, ld := { m.ld with phase := 7, active := false } }
    s.m.ld.phase ≠ 0 ∧ s.m.pw.perst = false ∧ s.m.sleepers = [] ∧ s.m.host.crsUntil ≤ s.m.time ∧ s.m.hostReach 0 = false := by decide +kernel
theorem witness_GroomerRegisters : ∀ d < 4,
    (st id).hostFree ∧ (st id).m.reg.parityOk = true ∧ (st id).m.inRunSet d = false ∧
    (∀ raised ∈ [true, false], let s := runSt { cmd0 with cr := 1 + 0xF * 2 ^ 64, raised := raised } {}
     s.hostFree ∧ s.m.reg.parityOk = true ∧ s.m.inRunSet d = true) := by decide +kernel
theorem witness_SafeRegisters : let s := st fun m => { m with dies := lset m.dies 5 (dieAt 1) }
    s.m.hostReach 0 = true ∧ s.m.sleepers = [] ∧ s.m.ld.phase ≠ 7 ∧ s.m.dies.length = 6 ∧ s.m.reg.parityOk = true ∧ (s.m.die 5).entering = none ∧ (s.m.die 5).waking = none ∧ (s.m.die 5).st < min 2 (0x800 / 4 ^ 5 % 4) := by
  decide +kernel
/-- MSI-X is enabled and vector 0 of the PF unmasked; the same with the link down; and as after reset. -/
def msiSt (on : Bool) (link : Nat) (v : Tbl Word) : State := st fun m =>
  { m with host := if on then { m.host with cfg := [(0x80, 2 ^ 31)], msix := [(12, 0)] } else m.host, pw := { m.pw with link := link }, reg := { m.reg with v := v } }
theorem witness_EventVectors : eventVec 0x800040 = some 0x80004C ∧ (0xFFF : Nat) ≠ 0 ∧ 0xFFF < 2 ^ 32 ∧
    (∀ p ∈ [(true, 1), (true, 0), (false, 1)], ∀ v ∈ [[], [(0x800040, (2 : Word)), (0x100018, 2)]], let s := msiSt p.1 p.2 v
      s.m.reg.sound 0x80004C = true ∧ (!s.m.masked 0 (s.m.rg 0x80004C) && s.m.canSend 0) = decide (p = (true, 1)) ∧
      (s.m.rg 0x800040 = 0 ↔ v = []) ∧ s.m.hostReach 0 = true ∧ s.m.sleepers = [] ∧ s.m.canSend 0 = decide (p.2 = 1) ∧
      (s.m.rg 0x100018 = 0 ↔ v = []) ∧ s.m.reg.sound 0x10001C = true ∧ s.m.masked 0 (s.m.rg 0x10001C) = !p.1) := by decide +kernel
theorem witness_MeterTakeAndConfiguration : (st id).m.hostReach 0 = true ∧ (st id).m.sleepers = [] := by decide +kernel
theorem witness_MeterPeriodSample : let s := st fun m => { m with reg := { m.reg with v := [(meterKey 1087 4, 0x215), (meterKey 1087 0x18, 10)] } }
    1024 ≤ 1087 ∧ 1087 < 1088 ∧ s.m.ld.phase ≠ 0 ∧ s.m.reg.parityOk = true ∧
    (s.m.reg.v.filter (fun p => decide (0x10000000 ≤ p.1) && p.1 % 0x40 == 4)).map (fun p => p.1) = [meterKey 1087 4] ∧
    bitAt (s.m.mcfg 1087 4) 9 = true ∧ fld (s.m.mcfg 1087 4) 7 0 = 0x15 ∧ s.m.mcfg 1087 0x18 < 11 := by decide +kernel

end Sys2Proof.Tests
end

