-- ==== Sys2Proof/Tests/WitnessModule.lean ====
section
/-! SUPPORT. States and operands that meet the hypotheses of the load, flash, reset, pin, fault and sensor statements, clause by clause. -/

namespace Sys2Proof.Tests
set_option Elab.async false
open Sys2Proof Sys2Proof.Machine

/-! The load, the gate, the mailbox and the flash. -/

/-- A load in a phase on a module with its supplies up. -/
def loadSt (l : Load) : State := st fun m => { m with ld := l }
theorem witness_LoadHeader : ∀ a ∈ [0, 3], (loadSt { phase := 1, attempt := a }).m.loads 1 = true ∧ (loadSt { phase := 1, attempt := a }).m.reg.parityOk = true := by decide +kernel
theorem witness_LoadSegment : (loadSt { phase := 2, hdr := List.replicate 576 0 }).m.loads 2 = true ∧ (loadSt { phase := 2 }).m.pw.hbmReady = true ∧ (loadSt { phase := 2 }).m.reg.parityOk = true ∧
    Mem.wfD 0 (loadSt { phase := 2 }).m.mem = true := by
  decide +kernel
theorem witness_LoadChecks : (loadSt { phase := 3 }).m.loads 3 = true ∧ (loadSt { phase := 3 }).m.reg.parityOk = true ∧ recsOf (loadSt { phase := 3 }).m.ld.recs 15 = [] := by decide +kernel
/-- Memory tile 0 was written by a DEVICE_DATA record, memory tile 287 was not; bytes at the ends of the staging area. -/
theorem witness_ActivationActs : let s := loadSt { phase := 4, dataTiles := [0] }
    s.m.loads 4 = true ∧ s.m.reg.parityOk = true ∧ Mem.wfD 0 s.m.mem = true ∧ spBase ≤ spBase + 0x47FFFFFF ∧ (spBase + 0x47FFFFFF - spBase) / 0x400000 ∉ s.m.ld.dataTiles ∧
    0x0047F0000000 ≤ 0x0047FFFFFFFF ∧ 0x0047FFFFFFFF < 0x004800000000 ∧ 0x0047EFFFFFFF < spBase ∧ 3 < s.m.dies.length := by decide +kernel
theorem witness_StartGate :
    (∀ sm ∈ [true, false], let s := (loadSt { phase := 5, high := 8 }).on fun m => { m with pw := { m.pw with startMode := sm } }
      s.m.reg.parityOk = true ∧ s.m.ld.phase = 5 ∧ s.m.mon.fltState = 0 ∧ s.m.ld.high = 8) ∧
    (let s := (loadSt { phase := 5, high := 8 }).on fun m => { m with mon := { m.mon with fltState := 2 } }
     s.m.reg.parityOk = true ∧ s.m.mon.fltState ≠ 0) ∧
    (let s := loadSt { phase := 5, high := 7 }
     s.m.reg.parityOk = true ∧ s.pending = [] ∧ s.m.ld.phase = 5 ∧ s.m.pw.startMode = false ∧ s.m.ld.high < 8 ∧ s.m.ld.high ≠ 8 ∧ s.m.doneHigh = true) ∧
    (loadSt { phase := 6 }).m.ld.phase ≠ 5 := by decide +kernel
theorem witness_HbmReady : let s := st fun m => { m with pw := { m.pw with hbmReady := false } }
    s.m.pw.on = 2 ∧ s.m.pw.hbmReady = false ∧ s.m.dies.length = 6 := by decide +kernel
theorem witness_MailboxCommands :
    (st id).m.hostReach 0 = true ∧ (st id).m.sleepers = [] ∧ (st id).m.mbox.state ≠ 1 ∧
    (let s := st fun m => { m with mbox := { state := 2, cmd := 2, resp := List.replicate 4096 7 } }
     s.m.hostReach 0 = true ∧ s.m.sleepers = [] ∧ 1023 < 1024 ∧ 4 * 1023 + 4 ≤ s.m.mbox.resp.length) ∧
    (∀ c ∈ [1, 2], let s := st fun m => { m with mbox := { state := 1, cmd := c } }
      s.m.mbox.state = 1 ∧ s.m.mbox.cmd = c) ∧ 2 < 255 ∧ 255 < 256 := by decide +kernel
theorem witness_MailboxLock :
    ((st id).m.hostReach 0 = true ∧ (st id).m.sleepers = [] ∧ (st id).m.reg.parityOk = true ∧ (st id).m.rg 0x300010 = 0 ∧ 0x1FFFF % 65536 ≠ 0) ∧
    (∀ seen ∈ [true, false], let s := st fun m => { m with mbox := { cmdSeen := seen }, reg := { m.reg with v := [(0x300010, 7)] } }
      s.m.hostReach 0 = true ∧ s.m.sleepers = [] ∧ s.m.reg.parityOk = true ∧ s.m.rg 0x300010 ≠ 0 ∧ s.m.mbox.cmdSeen = seen) := by decide +kernel
/-- A module whose flash is unlocked, with its non-volatile parts. -/
def flashSt (v : NonVol) : State := { (st fun m => { m with reg := { m.reg with v := [(0x300020, 1)] } }) with nv := v }
theorem witness_FlashCommands :
    (∀ v ∈ [({} : NonVol), { erase := some 4094 }, { buf := [(0x0FFEFFFF, 0x0F)] }, { erase := some 0, buf := [(3, 1)] }],
      (flashSt v).m.hostReach 0 = true ∧ (flashSt v).m.sleepers = [] ∧ (flashSt v).m.reg.parityOk = true ∧ Mem.wfD 0xFF (flashSt v).nv.flash = true ∧
      (flashSt v).m.flashOpen = true) ∧
    (4094 ≤ 4094 ∧ ({} : NonVol).busy = false) ∧ ((st id).m.flashOpen = false ∧ ({ erase := some 1 } : NonVol).busy = true) ∧
    (let s := (flashSt {}).on fun m => { m with ld := { m.ld with phase := 1 } }
     s.m.flashOpen = false ∧ s.m.hostReach 0 = true ∧ s.m.sleepers = [] ∧ s.m.reg.parityOk = true ∧ 0x0FFEFFFE + [(1 : Byte), 2].length ≤ 0x0FFF0000) ∧
    ((flashSt { erase := some 4094 }).nv.erase = some 4094 ∧ (flashSt { erase := some 4094 }).nv.buf = []) ∧
    (0x0FFEFFFE + [(1 : Byte), 2].length ≤ 0x0FFF0000 ∧ 0 < [(1 : Byte), 2].length ∧ [(1 : Byte), 2].length ≤ 4096 - (flashSt {}).nv.buf.length) ∧
    (let v : NonVol := { buf := List.replicate 4095 (0, 0) }
     4096 - (flashSt v).nv.buf.length < [(1 : Byte), 2].length) ∧
    -- one byte; a byte of the page twice and one beside it, with a byte of the next page behind
    (∀ b ∈ [[((0x0FFEFFFF : Nat), (0x0F : Byte))], [(255, 0x0F), (255, 0xF1), (0, 3), (256, 7)]],
      (flashSt { buf := b }).nv.erase = none ∧ (flashSt { buf := b }).nv.buf = b ∧ b ≠ []) := by decide +kernel

/-! The non-volatile parts. -/

/-- All 64 fuses blown, and a header of SEC_VERSION 63. -/
def oldImage : NonVol :=
  { flash := mwrite 0xFF [] 0 (natLE 256 (0x4D494E4F4D52414B + 0x1152 * 2 ^ 64 + 63 * 2 ^ 128 + 4090 * 2 ^ 144 + 2 ^ 160)), blown := 64 }
theorem oldImage_floor : oldImage.floor = 64 := Nat.min_eq_left (Nat.le_add_left 64 Config.floorFuses)
theorem oldImage_sec : hSec (leNat (oldImage.bytes 0 256)) = 63 := by decide +kernel
/-- An image of SEC_VERSION 100, above the floor whatever the fuses; no image. -/
theorem witness_FloorNeverFalls :
    (let s := st fun m => { m with img := { m.img with sec := 100 } }
     (s.m.hostReach 0 = true ∧ s.m.sleepers = []) ∧ s.m.ld.active = true ∧ s.nv.floor < s.m.img.sec) ∧
    (let s := st fun m => { m with ld := { m.ld with active := false } }
     s.m.hostReach 0 = true ∧ s.m.sleepers = [] ∧ s.m.ld.active = false) ∧
    (∃ t, step State.reset = .next t) :=
  ⟨⟨by decide +kernel, by decide +kernel, Nat.lt_of_le_of_lt (Nat.min_le_left 64 _) (by decide)⟩, by decide +kernel, _, rfl⟩
theorem witness_FloorNeverFalls_header : let s : State := { State.reset with nv := oldImage, m := { Mod.reset with pw := { on := 2 }, ld := { phase := 1 } } }
    let x := leNat (s.nv.bytes 0 256)
    (s.m.loads 1 = true ∧ s.m.reg.parityOk = true ∧ fld x 63 0 = 0x4D494E4F4D52414B ∧ fld x 191 160 = 1 ∧ 1 ≤ hSeg x ∧ hSeg x ≤ 4090 ∧ fld x 2047 576 = 0 ∧
      fld x 95 64 = 0x1152 ∧ fld x 255 192 = 0) ∧ hSec x < s.nv.floor :=
  ⟨by decide +kernel, by show hSec (leNat (oldImage.bytes 0 256)) < oldImage.floor; rw [oldImage_sec, oldImage_floor]; decide⟩
theorem witness_NonVolatileInvariant : State.reset.nv.Inv ∧ State.reset.m.MemInv ∧ State.reset.m.dies.length = 6 ∧ ∃ t, step State.reset = .next t :=
  ⟨by unfold NonVol.Inv; decide +kernel, by unfold Mod.MemInv; decide +kernel, by decide, _, rfl⟩
/-- A host access that nothing waits before. -/
theorem witness_WhoReachesTheFlash : (st id).m.sleepers = [] := rfl

/-! Resets, power, pins and link. -/

theorem witness_PowerSequence :
    (∀ t ∈ [250000, 249999], let s := st fun m => { m with pw := { on := 0 }, time := t }
      s.m.pw.on = 0 ∧ s.m.time = t) ∧
    (let s := st fun m => { m with pw := { on := 0, riseHeld := true } }
     s.m.pw.on = 0 ∧ s.m.pw.riseHeld = true) ∧ State.reset.m.pw.on = 1 ∧ State.reset.m.pw.on ≠ 0 ∧ (1023 : Nat) < 1024 ∧ ({} : NonVol).busy = false := by
  decide +kernel
/-- A warm reset in a stage: the hold-off, the reset, the reset with PERST_N asserted. -/
def warmSt (hold perst : Bool) (f : Mod → Mod) : State := st fun m => f { m with pw := { m.pw with warm := some 0, holdoff := hold, perst := perst } }
theorem witness_WarmResetRequests :
    (let s := st fun m => { m with grm := [(3, {})] }
     s.m.reg.parityOk = true ∧ s.m.ld.phase ≠ 0 ∧ s.m.pw.warm = none ∧ s.m.mon.fltState = 0 ∧ s.m.hostReach 0 = true ∧ s.m.sleepers = [] ∧ (tget? s.m.grm 3).isSome = true) ∧
    (let s := st fun m => { m with mon := { m.mon with fltState := 2 } }
     s.m.reg.parityOk = true ∧ s.m.ld.phase ≠ 0 ∧ s.m.pw.warm = none ∧ s.m.mon.fltState ≠ 0) ∧
    (let s := warmSt true false id
     s.m.reg.parityOk = true ∧ s.m.pw.warm.isSome = true ∧ s.m.mon.fltState = 0) ∧
    (let s := warmSt false false fun m => { m with mon := { m.mon with fltState := 2 } }
     s.m.reg.parityOk = true ∧ s.m.pw.warm.isSome = true ∧ s.m.pw.due = false) ∧
    (let s := warmSt false false fun m => { m with mon := { m.mon with fltState := 2, was := true } }
     s.m.reg.parityOk = true ∧ s.m.pw.warm.isSome = true ∧ s.m.pw.holdoff = false ∧ s.m.pw.due = false ∧ s.m.pw.perst = false ∧ s.m.mon.fltState = 2) ∧
    (warmSt true true id).m.pw.perst = true ∧ (warmSt true true id).m.reg.parityOk = true ∧ 1023 < 1024 := by decide +kernel
theorem witness_HoldoffEnds : ∀ a ∈ [true, false], let s := warmSt true false fun m => { m with ld := { m.ld with active := a }, reg := { m.reg with v := [(0x100004, 0xFFFF)] } }
    s.m.pw.warm.isSome = true ∧ s.m.pw.holdoff = true ∧ s.m.sleepers = [] ∧ s.m.dies.length = 6 ∧ s.sound ∧ s.still ∧ s.m.ers.asleep = [] ∧ s.m.ers.acks = [] ∧
    (∃ x, regRow? 0x100004 = some x ∧ x.keep ≠ 0) ∧ (∃ x, regRow? 0x10001C = some x ∧ x.keep = 0) ∧ s.nv.busy = false ∧
    s.m.ld.active = a ∧ s.m.resident 287 = false := by decide +kernel
theorem witness_Reload : (st id).m.hostReach 0 = true ∧ (st id).m.sleepers = [] := by decide +kernel
theorem witness_FunctionLevelReset : (1 : Nat) ≤ 63 ∧ (63 : Nat) < 64 ∧ (st id).m.ld.phase ≠ 0 ∧ (st id).noBlock ∧ (63 * 1024 + 1023) / 1024 = 63 ∧ 1023 / 1024 ≠ 63 := by
  decide +kernel
theorem witness_SidebandLines :
    (∀ on ∈ [true, false], let s := st fun m => { m with host := { m.host with pba := [(0, 5)], cfg := [(0x80, 2 ^ 31)], msix := if on then [(92, 0)] else [] } }
     s.m.ld.phase ≠ 0 ∧ s.m.pw.perst = false ∧ s.m.pw.d3 = [] ∧ (0, 5) ∈ s.m.host.pba ∧ s.m.masked 0 5 = !on) ∧ drivesPins 7 = true ∧ drivesPins 2 = false ∧
    (let s := st fun m => { m with pw := { m.pw with perst := true }, ld := { m.ld with active := false } }
     s.m.pw.perst = true ∧ s.m.ld.active = false ∧ s.m.ld.phase ≠ 0 ∧ (s.on fun m => { m with pw := { m.pw with ir := 5 } }).m.scanIr = 5 ∧
     (s.on fun m => { m with pw := { m.pw with ir := 9 } }).m.scanIr = 0) ∧ 7 < 9 ∧ (st id).m.pw.perst = false ∧ (st id).m.ld.active = true := by decide +kernel

/-! Faults, sensors and SMBus. -/

theorem witness_FatalFaultContained :
    (0x0F01 ≤ 0x0F0E ∧ 0x0F0E ≤ 0x0F0E ∧ 7 < 8 ∧ 1023 < 1024 ∧ 2 ^ 48 - 1 < 2 ^ 48 ∧ (st id).m.ld.phase ≠ 0) ∧ (st id).unfaulted ∧
    ((st fun m => { m with mon := { m.mon with fltState := 2 } }).m.mon.fltState ≠ 0) := by unfold State.unfaulted; decide +kernel
theorem witness_FaultDetectors :
    (st id).m.ld.phase ≠ 0 ∧ (st id).unfaulted ∧ (st id).m.ld.active = true ∧ (st fun m => { m with ld := { m.ld with active := false } }).m.ld.active = false ∧
    (let s := st fun m => { m with reg := { v := [(0x24, 1)], par := [(0x24, false)] } }
     s.unfaulted ∧ s.m.reg.parityOk = false) ∧ (st id).m.reg.parityOk = true ∧ (st id).m.pw.perst = false ∧
    (st fun m => { m with pw := { m.pw with perst := true } }).m.pw.perst = true ∧ (∀ x < 2, (st id).m.erefNeeded x = true) ∧
    (∀ x < 2, (st fun m => { m with ld := { m.ld with active := false } }).m.erefNeeded x = false) := by unfold State.unfaulted; decide +kernel
theorem witness_FaultCommands :
    (st id).m.hostReach 0 = true ∧ (st id).m.sleepers = [] ∧ (st id).m.reg.parityOk = true ∧ (st id).m.mon.fltState = 0 ∧
    (let s := st fun m => { m with mon := { m.mon with fltState := 1 } }
     s.m.hostReach 0 = true ∧ s.m.sleepers = [] ∧ s.m.reg.parityOk = true ∧ s.m.mon.fltState ≠ 0) ∧
    (let s := st fun m => { m with reg := { m.reg with v := [(0x500088, 0x800)] } }
     s.m.hostReach 0 = true ∧ s.m.sleepers = [] ∧ s.m.reg.parityOk = true ∧
     let a := s.m.rg 0x500084 + 2 ^ 32 * (s.m.rg 0x500088 % 65536)
     fld (0x5AFE0000 + 2) 31 16 = 0x5AFE ∧ injectable ((0x5AFE0000 + 2) % 8) a = true ∧ injectable ((0x5AFE0000 + 4) % 8) a = false) := by decide +kernel
set_option synthInstance.maxSize 2000 in
theorem witness_SensorReadings :
    (st id).m.ld.phase ≠ 0 ∧ (st id).m.dies.length = 6 ∧ (st id).m.reg.parityOk = true ∧ (st id).unfaulted ∧
    (∀ x ∈ [439, 440], let ts := List.replicate 47 0 ++ x :: [0, 0, 0]
      ts.length = 51 ∧ (∀ y ∈ ts, y < 4096) ∧ nth 0 ts 47 = x ∧ (x = 439 → ∀ i < 48, nth 0 ts i < 440)) ∧
    (let ts := List.replicate 51 400
     ts.length = 51 ∧ (∀ i < 48, nth 0 ts i < 440) ∧ 4 * (st id).m.rg 0x50006C ≤ nth 0 ts (8 * 3 + 7)) ∧
    (let mv := [48000, 750, 750, 750, 750, 750, 750, 1100, 1050, 900, 800]
     mv.length = 11 ∧ (List.replicate 11 0).length = 11 ∧ (∀ r < 11, (st id).m.railUp r = true) ∧
     (∀ r < 11, (nth (0, 0, 0, 0, 6) rails r).1 ≤ 10 * nth 0 mv r ∧ 10 * nth 0 mv r ≤ (nth (0, 0, 0, 0, 6) rails r).2.1 ∧
       nth 0 (List.replicate 11 0) r ≤ (nth (0, 0, 0, 0, 6) rails r).2.2.2.1)) ∧
    10 * nth 0 (List.replicate 11 60001) 0 > (nth (0, 0, 0, 0, 6) rails 0).2.1 ∧
    (∀ c ∈ [0, 600], (st fun m => { m with pw := { m.pw with cap := c } }).m.pw.cap = c) ∧ 600 < 65535 ∧ 65535 < 65536 := by
  unfold State.unfaulted; decide +kernel
/-- A write of the cap with no packet error code, the right one and a wrong one, to the address of MID 7. -/
theorem witness_SmbusReplies : (st id).m.ld.phase ≠ 0 ∧ 65535 < 65536 ∧
    (let s := st fun m => { m with pw := { m.pw with midPor := 7 } }
     let good := crc8 ([2 * (0x58 + s.m.pw.midPor % 8), 0x20] ++ (natLE 2 600).map (·.toNat))
     s.m.ld.phase ≠ 0 ∧ good < 256 ∧ (good + 1) % 256 ≠ good) := by decide +kernel

end Sys2Proof.Tests
end

