-- ==== Sys2Proof/Tests/WitnessScalar.lean ====
section
/-! SUPPORT. States and operands that meet the hypotheses of the S-core statements, clause by clause. -/

namespace Sys2Proof.Tests
set_option Elab.async false
open Sys2Proof Sys2Proof.Machine

theorem witness_IdleStepPassesOneCycle : State.reset.pending = [] := by decide
theorem witness_ScalarRegisterOperations : ∀ fn < 17, let w := enc 0 1 2 3 fn
    ScAt (scSt w {} {}) 0 w 0 ∧ fld w 10 0 = fn ∧ fld w 25 21 = 1 := by unfold ScAt; decide +kernel
theorem witness_ScalarImmediateOperations : ∀ op < 10, 0 < op → let w := enc op 1 2 31 0x7FF
    ScAt (scSt w { g := [(2, 0xFFFFFFFF)] } {}) 0 w op ∧ fld w 15 0 = 0xFFFF := by unfold ScAt; decide +kernel
/-- A backward branch to the first word, and jumps to the last word of the program area. -/
theorem witness_ScalarControlTransfer :
    (∀ op < 0x1A, 0x14 ≤ op → let w := enc op 1 2 31 0x7FE
      ScAt (scSt w { pc := 4 } {}) 0 w op ∧ (0 : Int) = (4 : Nat) + 4 + 4 * ((fld w 15 0 : Int) - 65536) ∧ (scSt w { pc := 4 } {}).gr 0 1 = (scSt w { pc := 4 } {}).gr 0 2) ∧
    (let w := 0x1A * 2 ^ 26 + 0xBFFE
     ScAt (scSt w {} {}) 0 w 0x1A ∧ (0x2FFFC : Int) = (0 : Nat) + 4 + 4 * (fld w 25 0 : Int)) ∧
    (let w := enc 0x1B 1 2 0 0
     let s := scSt w { g := [(2, 0x2FFFF)] } {}
     ScAt s 0 w 0x1B ∧ (0x2FFFC : Int) = ((s.gr 0 2).toInt + 0) % 2 ^ 32 / 4 * 4) := by unfold ScAt; decide +kernel
/-- The last word of the data area, the first of the program area. -/
theorem witness_ScalarPrivateSram : (∀ op ∈ [0xA, 0xB, 0xC, 0xD, 0xE, 0x10, 0x11, 0x12], let w := enc op 1 2 0 0
    ScAt (scSt w { g := [(2, 0x3FFFC)] } {}) 0 w op ∧ ScAt (scSt w { g := [(2, 0x30000)] } {}) 0 w op ∧ ScAt (scSt w {} {}) 0 w op ∧
    ((scSt w { g := [(2, 0x3FFFC)] } {}).gr 0 2 + (BitVec.ofNat 16 (fld w 15 0)).signExtend 32).toNat = 0x3FFFC) := by unfold ScAt; decide +kernel
theorem witness_ProgramFaultStops : let s := scSt 0 {} {}
    s.m.run? (s.m.s 0).ctx = some cmd0 ∧ cmd0.outcome = 0 ∧ (0x2FFFC : Nat) < 2 ^ 18 ∧ (s.m.s 0).block = .none := by decide +kernel
theorem witness_ScalarProgramFaults :
    (∀ op ∈ [0xA, 0xB, 0xC, 0xD, 0xE, 0x10, 0x11, 0x12], ∀ a ∈ [0x40000, 0x3FFFFFFF, 0xC0000000, 0x3FFFD, 0x2FFFC], let w := enc op 1 2 0 0
      ScAt (scSt w { g := [(2, BitVec.ofNat 32 a)] } {}) 0 w op ∧
      ((scSt w { g := [(2, BitVec.ofNat 32 a)] } {}).gr 0 2 + (BitVec.ofNat 16 (fld w 15 0)).signExtend 32).toNat = a) ∧
    (∀ op ∈ [0x20, 0x21], let w := enc op 1 2 3 0
      ScAt (scSt w { g := [(3, 65536)] } {}) 0 w op ∧ 65535 < ((scSt w { g := [(3, 65536)] } {}).gr 0 (fld w 15 11)).toNat) ∧
    (∀ k ∈ [6, 0x14, 0x24, 0x32, 0xFFF], ScAt (scSt (enc 0x24 1 0 0 k % 2 ^ 32) {} {}) 0 (enc 0x24 1 0 0 k) 0x24 ∧ fld (enc 0x24 1 0 0 k) 15 0 % 4096 = k) ∧
    (∀ k ∈ [0xF, 0x14], ScAt (scSt (enc 0x25 1 0 0 k) {} {}) 0 (enc 0x25 1 0 0 k) 0x25 ∧ fld (enc 0x25 1 0 0 k) 15 0 % 4096 = k) ∧
    (∀ k ∈ [5, 7], ScAt (scSt (enc 0x26 0 0 0 k) {} {}) 0 (enc 0x26 0 0 0 k) 0x26 ∧ fld (enc 0x26 0 0 0 k) 15 0 % 8 = k) := by
  unfold ScAt; decide +kernel
theorem witness_IllegalWordStops : ∀ p ∈ [(0, 0x11), (0xF, 0), (0x13, 0), (0x1C, 0), (0x1D, 0), (0x1E, 0), (0x1F, 0), (0x31, 0), (0x3F, 0)],
    let w := enc p.1 0 0 0 p.2
    let s := scSt w {} {}
    ScAt s 0 w p.1 ∧ s.m.run? (s.m.s 0).ctx = some cmd0 ∧ fld w 10 0 = p.2 := by unfold ScAt; decide +kernel
/-- Records that start before the data area, end past it, and are misaligned at its two ends. -/
theorem witness_RecordFaults : ∀ p ∈ [(0x27, 32), (0x28, 16), (0x29, 16), (0x2E, 32)], ∀ a ∈ [0x2FFFF, 0x30001, 0x3FFFF - p.2, 0x40001 - p.2],
    let w := enc p.1 1 2 2 0
    let s := scSt w { g := [(2, BitVec.ofNat 32 a)] } {}
    ScAt s 0 w p.1 ∧ (s.gr 0 (fld w 20 16)).toNat = a ∧ (s.gr 0 (fld w 15 11)).toNat = a := by unfold ScAt; decide +kernel
/-- The first address past the program area, the ends of the data area and of the apertures, and the one past them. -/
theorem witness_FetchFaults : ∀ pc ∈ [0x30000, 0x3FFFC, 0x40000, 0x3FFFFFFC, 0x40000000, 0xBFFFFFFC, 0xC0000000],
    let s := scSt 0 { pc := pc } {}
    (s.m.s 0).running = true ∧ (s.m.s 0).block = .none ∧ (s.m.s 0).pc = pc ∧ 0x30000 ≤ pc := by decide +kernel
/-- The last word of the scratchpad of CD[3]. -/
theorem witness_ApertureLoadReturns :
    (let w := enc 0xE 1 2 0 0
     let s := scSt w { g := [(2, 0x7FFFFFFC)], ap0 := 0x08000801_0000 - 0x10000 - 0x800000 } {}
     let a := (s.gr 0 2 + (BitVec.ofNat 16 (fld w 15 0)).signExtend 32).toNat
     let d := (s.m.s 0).ap0 + (a - 0x40000000)
     ScAt s 0 w 0xE ∧ fld w 25 21 ≠ 0 ∧ s.sound ∧ (∀ r ∈ (s.m.t (mtTile ((d - 0x080000000000) / 0x400000))).reqs, bankOf r.addr ≠ bankOf d) ∧ s.m.awake (0 / 16) d 4 = true ∧ 0x40000000 ≤ a ∧ a < 0x80000000 ∧ a % 4 = 0 ∧ 0x080000000000 ≤ d ∧ d + 4 ≤ 0x080048000000 ∧ d % 4 = 0 ∧
       s.m.tenOk ((d - 0x080000000000) / 0x400000) ((s.m.s 0).ctx / 1024) = true) ∧
    (let s := scSt 0 { loads := [⟨31, 7⟩] } {}
     (s.m.s 0).loads.find? (fun l => l.rd == 31) = some ⟨31, 7⟩) := by unfold ScAt; decide +kernel
/-- The last bytes of HBM; HBM of a die in RUN, and of a die in DEEP. -/
theorem witness_ApertureStoreWritesItsBytes : ∀ p ∈ [(0x10, 1), (0x11, 2), (0x12, 4)], ∀ q ∈ [(2, false), (0, true)],
    let w := enc p.1 1 2 0 0
    let s := (scSt w { g := [(2, 0xBFFFFFFC)], ap1 := 0x012000000000 - 0x40000000 } {}).on fun m => { m with dies := lset m.dies 3 (dieAt q.1) }
    let a := (s.gr 0 2 + (BitVec.ofNat 16 (fld w 15 0)).signExtend 32).toNat
    ScAt s 0 w p.1 ∧ 0x80000000 ≤ a ∧ a < 0xC0000000 ∧ a % p.2 = 0 ∧ (s.m.s 0).ap1 + (a - 0x80000000) + p.2 ≤ 0x012000000000 ∧
      Mem.wfD 0 s.m.mem = true ∧ s.m.mon.inject = none ∧ (∀ u ∈ s.m.upd, u.core ≠ scTile 0) ∧ s.m.mustWait (scTile 0) ((s.m.s 0).ap1 + (a - 0x80000000)) p.2 = q.2 := by
  unfold ScAt; decide +kernel
theorem witness_SemaphoreInstructions :
    (∀ op < 0x24, 0x20 ≤ op → let w := enc op 1 2 3 0
      ∀ k ∈ [0, 1, 65535], let s := scSt w { g := [(3, BitVec.ofNat 32 k), (2, 31)] } { sem := [(31, 1)] }
      ScAt s 0 w op ∧ (s.gr 0 (fld w 15 11)).toNat = k ∧ (s.gr 0 (fld w 20 16)).toNat % 32 = 31 ∧ tget 0 (s.m.t (scTile 0)).sem 31 = 1 ∧
        (s.m.t (scTile 0)).waits.all (fun x => x.sem != 31) = true) ∧
    (let w := enc 0x20 1 2 3 0
     let s := scSt w { g := [(3, 1), (2, 31)] } { sem := [(31, 1)], waits := [⟨2, 31, 5⟩] }
     ScAt s 0 w 0x20 ∧ (s.m.t (scTile 0)).waits.any (fun x => x.sem == 31) = true) := by unfold ScAt; decide +kernel
theorem witness_SemaphoreGrant :
    (let s := scSt 0 { block := .sem 31 5 } { sem := [(31, 5)], waits := [⟨0, 3, 1⟩, ⟨0, 31, 5⟩] }
     let t := scTile 0
     (s.m.t t).waits[1]? = some ⟨0, 31, 5⟩ ∧ (∀ j < 1, ∀ y, (s.m.t t).waits[j]? = some y → y.sem ≠ 31) ∧ 5 ≤ tget 0 (s.m.t t).sem 31 ∧
       scOf t = 0 ∧ (s.m.s 0).block = .sem 31 5 ∧ (s.m.s 0).pc + 4 < 0x30000) ∧
    (let d : Desc := { seq := 0, lid := 0, idx := 0, addr := 0, raw := 0, ctx := 0, wait := 1 }
     let s := scSt 0 {} { sem := [(31, 5)], waits := [⟨2, 31, 5⟩], eng := [(0, { buf := [d] })] }
     (s.m.e (scTile 0) 0).buf.findIdx? (fun d => d.wait == 1) = some 0 ∧ (s.m.e (scTile 0) 0).buf[0]? = some d) := by
  refine ⟨⟨by decide +kernel, ?_, by decide +kernel⟩, by decide +kernel⟩
  intro j hj y h
  obtain rfl : j = 0 := by omega
  have e : ((scSt 0 { block := .sem 31 5 } { sem := [(31, 5)], waits := [⟨0, 3, 1⟩, ⟨0, 31, 5⟩] }).m.t (scTile 0)).waits[0]? = some ⟨0, 3, 1⟩ := by
    decide +kernel
  rw [e] at h
  cases h
  decide
theorem witness_ControlRegisterReads : ∀ k ∈ [0, 1, 2, 3, 4, 5, 0x10, 0x11, 0x12, 0x13, 0x20, 0x21, 0x22, 0x23, 0x30, 0x31],
    let w := enc 0x24 1 0 0 k
    ScAt (scSt w {} {}) 0 w 0x24 ∧ fld w 25 21 ≠ 0 ∧ fld w 15 0 % 4096 = k := by unfold ScAt; decide +kernel
theorem witness_ControlRegisterWrites : ∀ k ∈ [0x10, 0x11, 0x12, 0x13], let w := enc 0x25 0 1 0 k
    let s := scSt w { ap0 := 2 ^ 48 - 2 ^ 16, g := [(1, 0xFFFFFFFF)] } {}
    ScAt s 0 w 0x25 ∧ fld w 15 0 % 4096 = k ∧ (s.m.s 0).ap0 < 2 ^ 48 ∧ (s.m.s 0).ap1 < 2 ^ 48 := by unfold ScAt; decide +kernel
/-- Every scope, with no load out and with one; a fence whose stores are complete, and one with a store on its way; DONE. -/
theorem witness_FencesAndDone :
    (∀ k < 5, let w := enc 0x26 0 0 0 k
      fld w 15 0 % 8 = k ∧ (ScAt (scSt w {} {}) 0 w 0x26 ∧ ((scSt w {} {}).m.s 0).loads = []) ∧
      ScAt (scSt w { loads := [⟨9, 7⟩] } {}) 0 w 0x26 ∧ ((scSt w { loads := [⟨9, 7⟩] } {}).m.s 0).loads ≠ []) ∧
    (let s := scSt 0 { block := .fence 4 } {}
     let late : State := s.on fun m => { m with far := [⟨2, 0, scTile 0, 4, 0, 0, 0, 0, [1], none⟩] }
     (s.m.s 0).block = .fence 4 ∧ (s.m.s 0).pc + 4 < 0x30000 ∧ (s.m.s 0).loads = [] ∧ s.m.quietAt (scTile 0) 4 4 = true ∧
       (late.m.s 0).block = .fence 4 ∧ late.m.quietAt (scTile 0) 4 4 = false) ∧
    (let w := enc 0x30 0 1 0 0
     let s := scSt w {} {}
     ScAt s 0 w 0x30 ∧ s.sound ∧ (s.m.s 0).loads = [] ∧ (s.m.fenceSc 0).quietCore (scTile 0) 4 = true) := by unfold ScAt; decide +kernel
/-- A region that holds S-core 0 and tile 1 (an M-core) alone; list records that fail each check, and one that passes. -/
def launchSt (tl q n : Nat) (lists : List DList) : State :=
  let x := tl + q * 2 ^ 10 + 0xFFFF * 2 ^ 16 + n * 2 ^ 80
  let s := scSt (enc 0x27 1 2 0 0) { g := [(2, 0x30000)], data := mwrite 0 [] 0 (natLE 32 x) } {}
  s.on fun m => { m with img := { m.img with regions := [2 ^ (tileBit 17) + 2 ^ (tileBit 32) + 2 ^ (tileBit 33) + 2 ^ 768] },
                         tile := tset (tset m.tile 32 { eng := [(q, { lists := lists })] }) 33 {} }
theorem witness_LaunchQueuesAList :
    let w := enc 0x27 1 2 0 0
    let ok (s : State) : Prop := ScAt s 0 w 0x27 ∧ (s.gr 0 (fld w 20 16)).toNat = 0x30000 ∧ s.m.regionOf 0 = some 0
    let xOf (s : State) : Nat := leNat (mread 0 (s.m.s 0).data 0 32)
    let ins (s : State) (tl : Nat) : Bool := inRegion (nth 0 s.m.img.regions 0) tl
    (ok (launchSt 32 0 0 []) ∧ fld (xOf (launchSt 32 0 0 [])) 95 80 = 0 ∧
    ok (launchSt 34 0 1 []) ∧ ins (launchSt 34 0 1 []) 34 = false ∧ kindOf 34 ≠ .none ∧
    ok (launchSt 0x3FF 0 1 []) ∧ kindOf 0x3FF = .none) ∧
    ok (launchSt 17 0 1 []) ∧ ins (launchSt 17 0 1 []) 17 = true ∧ kindOf 17 = .score ∧
    ok (launchSt 32 3 1 (List.replicate 64 ⟨0, 0, 1, 0, 0, 0, 0⟩)) ∧ ins (launchSt 32 3 1 []) 32 = true ∧ kindOf 32 = .mcore ∧
      64 ≤ (((launchSt 32 3 1 (List.replicate 64 ⟨0, 0, 1, 0, 0, 0, 0⟩)).m.e 32 3).lists.filter (fun l => l.fetched == 0)).length ∧
    ok (launchSt 32 3 65535 []) ∧ fld (xOf (launchSt 32 3 65535 [])) 95 80 = 65535 ∧ fld (xOf (launchSt 32 3 65535 [])) 9 0 = 32 ∧
    fld (xOf (launchSt 32 3 65535 [])) 15 12 = 0 ∧ fld (xOf (launchSt 32 3 65535 [])) 255 96 = 0 ∧
    (launchSt 32 3 65535 []).sound ∧ ((launchSt 32 3 65535 []).m.fenceSc 0).quietCore (scTile 0) 4 = true := by
  unfold ScAt; refine ⟨?_, ?_⟩ <;> decide +kernel

end Sys2Proof.Tests
end

section
/-! Number formats and exact records (R26 to R37): a pattern is its sign, exponent and fraction fields; decoding leaves the value on the
format's own grid and within its range, so rounding only encodes it again; record sums at a common anchor. -/

namespace Sys2Proof.Machine

/-! The fields of a floating pattern (R27). -/

/-- The biased exponent of a pattern. -/
def expField (f x : Nat) : Nat := fld x (fmtE f + fmtT f - 1) (fmtT f)
/-- The fraction of a pattern. -/
def fracField (f x : Nat) : Nat := x % 2 ^ fmtT f

theorem fmtE_pos (f : Nat) : 0 < fmtE f := by unfold fmtE; split <;> decide

theorem two_pow_fmtE (f : Nat) : 2 ^ fmtE f = 2 * fmtBias f + 2 := by unfold fmtBias fmtE; split <;> rfl

theorem fmtBias_pos (f : Nat) : 0 < fmtBias f := by unfold fmtBias fmtE; split <;> decide

theorem fmt_bits {f : Nat} (hf : f < 5) : 8 * fmtSize f = fmtE f + fmtT f + 1 := by
  match f, hf with
  | 0, _ | 1, _ | 2, _ | 3, _ | 4, _ => rfl

theorem expField_eq (f x : Nat) : expField f x = x / 2 ^ fmtT f % 2 ^ fmtE f := by
  have hw : fmtE f + fmtT f - 1 + 1 - fmtT f = fmtE f := by have := fmtE_pos f; omega
  rw [expField, fld, hw, Nat.shiftRight_eq_div_pow]

theorem fracField_lt (f x : Nat) : fracField f x < 2 ^ fmtT f := Nat.mod_lt _ (Nat.two_pow_pos _)

theorem expField_le (f x : Nat) : expField f x ≤ 2 * fmtBias f + 1 := by
  have : x / 2 ^ fmtT f % 2 ^ fmtE f < 2 ^ fmtE f := Nat.mod_lt _ (Nat.two_pow_pos _)
  rw [expField_eq]
  have := two_pow_fmtE f
  omega

/-- The signed zero of a floating format is its sign bit in place. -/
theorem fmtZero_signOf {f : Nat} (hf : f ≠ 5) (x : Nat) :
    fmtZero f (signOf f x) = x / 2 ^ (fmtE f + fmtT f) % 2 * 2 ^ (fmtE f + fmtT f) := by
  simp only [fmtZero, signOf, hf, if_false, Nat.testBit_eq_decide_div_mod_eq, decide_eq_true_eq]
  rcases Nat.mod_two_eq_zero_or_one (x / 2 ^ (fmtE f + fmtT f)) with h | h <;> simp [h]

/-- A floating pattern is its sign, exponent and fraction side by side. -/
theorem pattern_eq_fields {f x : Nat} (hf : f < 5) (hx : x < 2 ^ (8 * fmtSize f)) :
    fmtZero f (signOf f x) + expField f x * 2 ^ fmtT f + fracField f x = x := by
  rw [fmtZero_signOf (by omega), expField_eq, fracField]
  rw [fmt_bits hf, Nat.pow_succ] at hx
  have hsign : x / 2 ^ (fmtE f + fmtT f) % 2 = x / 2 ^ fmtT f / 2 ^ fmtE f := by
    rw [Nat.mod_eq_of_lt (Nat.div_lt_of_lt_mul hx), Nat.div_div_eq_div_mul, ← Nat.pow_add, Nat.add_comm]
  calc _ = (2 ^ fmtE f * (x / 2 ^ fmtT f / 2 ^ fmtE f) + x / 2 ^ fmtT f % 2 ^ fmtE f) * 2 ^ fmtT f + x % 2 ^ fmtT f := by
        rw [hsign, Nat.pow_add, Nat.add_mul, Nat.mul_comm (2 ^ fmtE f) (x / 2 ^ fmtT f / 2 ^ fmtE f), Nat.mul_assoc]
    _ = x := by rw [Nat.div_add_mod, Nat.div_add_mod']

/-! Decoding: NaN, an infinity, a subnormal or zero, or a normal value. -/

/-- The exponent and fraction of a finite normal pattern: E4M3 gives up one pattern, the other formats the all-ones exponent. -/
def NormalFields (f e fr : Nat) : Prop := e ≠ 0 ∧ if f = 1 then ¬ (e = 15 ∧ fr = 7) else e ≠ 2 ^ fmtE f - 1

theorem decodeNum_cases {f : Nat} (hf : f ≠ 5) (x : Nat) :
    decodeNum f x = .nan ∨
    (f ≠ 1 ∧ expField f x = 2 ^ fmtE f - 1 ∧ fracField f x = 0 ∧ decodeNum f x = .inf (signOf f x)) ∨
    (expField f x = 0 ∧ decodeNum f x = .fin (signOf f x) (fracField f x) (1 - (fmtBias f : Int) - fmtT f)) ∨
    (NormalFields f (expField f x) (fracField f x) ∧ decodeNum f x =
      .fin (signOf f x) (2 ^ fmtT f + fracField f x) ((expField f x : Int) - fmtBias f - fmtT f)) := by
  have hd : decodeNum f x =
      if f = 1 ∧ expField f x = 15 ∧ fracField f x = 7 then .nan
      else if f ≠ 1 ∧ expField f x = 2 ^ fmtE f - 1 then (if fracField f x = 0 then .inf (signOf f x) else .nan)
      else if expField f x = 0 then .fin (signOf f x) (fracField f x) (1 - (fmtBias f : Int) - fmtT f)
      else .fin (signOf f x) (2 ^ fmtT f + fracField f x) ((expField f x : Int) - fmtBias f - fmtT f) := by
    simp only [decodeNum, signOf, hf, if_false] <;> rfl
  rw [hd]
  by_cases hnan : f = 1 ∧ expField f x = 15 ∧ fracField f x = 7
  · exact .inl (if_pos hnan)
  rw [if_neg hnan]
  by_cases htop : f ≠ 1 ∧ expField f x = 2 ^ fmtE f - 1
  · rw [if_pos htop]
    by_cases hfr : fracField f x = 0
    · exact .inr (.inl ⟨htop.1, htop.2, hfr, if_pos hfr⟩)
    · exact .inl (if_neg hfr)
  rw [if_neg htop]
  by_cases he : expField f x = 0
  · exact .inr (.inr (.inl ⟨he, if_pos he⟩))
  have hn : NormalFields f (expField f x) (fracField f x) := by
    refine ⟨he, ?_⟩
    by_cases h1 : f = 1
    · rw [if_pos h1]
      exact fun h => hnan ⟨h1, h⟩
    · rw [if_neg h1]
      exact fun h => htop ⟨h1, h⟩
  exact .inr (.inr (.inr ⟨hn, if_neg he⟩))

/-! Rounding a value on the grid (R36): if v is representable, the result is v. -/

@[simp] theorem roundGrid_self (r : Rnd) (neg : Bool) (m : Nat) (q : Int) : roundGrid r neg m q q = m := by simp [roundGrid]

/-- A value that lies on the format's grid and within its range is encoded as it is, in every rounding mode. -/
theorem roundFin_of_representable {f m : Nat} {e : Int} (r : Rnd) (neg : Bool) (hf : f ≠ 5) (hm : m ≠ 0)
    (hgrid : max ((Nat.log2 m : Int) + e - fmtT f) (1 - (fmtBias f : Int) - fmtT f) = e)
    (hrange : magGt m e (fmtMax f).1 (fmtMax f).2 = false) : roundFin f r neg m e = encodeFin f neg m e := by
  simp [roundFin, hf, hm, hgrid, hrange]

theorem magGt_eq_false {n a : Nat} {q b : Int} (hq : q ≤ b) (hn : n ≤ a * 2 ^ (b - q).toNat) : magGt n q a b = false := by
  simp [magGt, hq, hn]

theorem magGt_of_significand_le {n a : Nat} {q b : Int} (hq : q ≤ b) (hn : n ≤ a) : magGt n q a b = false :=
  magGt_eq_false hq (Nat.le_trans hn (Nat.le_mul_of_pos_right _ (Nat.two_pow_pos _)))

/-- A fraction is below the largest significand, and so is every significand of p bits except in E4M3. -/
theorem le_fmtMax_significand {f n : Nat} (h : n < 2 ^ (fmtT f + 1)) (h1 : f = 1 → n ≤ 14) : n ≤ (fmtMax f).1 := by
  unfold fmtMax
  split
  · exact h1 ‹_›
  · exact Nat.le_sub_one_of_lt h

theorem grid_le_fmtMax_exponent {f : Nat} {q : Int} (h : q ≤ fmtBias f - fmtT f) (h1 : f = 1 → q ≤ 5) : q ≤ (fmtMax f).2 := by
  unfold fmtMax
  split
  · exact h1 ‹_›
  · exact h

theorem subnormal_in_range {f fr : Nat} (hfr : fr < 2 ^ fmtT f) :
    magGt fr (1 - (fmtBias f : Int) - fmtT f) (fmtMax f).1 (fmtMax f).2 = false := by
  have hb := fmtBias_pos f
  refine magGt_of_significand_le (grid_le_fmtMax_exponent (by omega) ?_) (le_fmtMax_significand (by rw [Nat.pow_succ]; omega) ?_)
  · rintro rfl; decide
  · rintro rfl; change fr < 8 at hfr; omega

/-- Finite E4M3: below the top exponent any significand is in range, at the top exponent those up to 14. -/
theorem e4m3_normal_in_range {e fr : Nat} (he : e ≤ 15) (hfr : fr < 8) (hfin : ¬ (e = 15 ∧ fr = 7)) :
    magGt (8 + fr) ((e : Int) - 7 - 3) 14 5 = false := by
  rcases Nat.lt_or_ge e 15 with hlt | hge
  · refine magGt_eq_false (by omega) ?_
    have hk : 1 ≤ (5 - ((e : Int) - 7 - 3)).toNat := by omega
    have := Nat.pow_le_pow_right (show 0 < 2 by decide) hk
    omega
  · exact magGt_of_significand_le (by omega) (by omega)

theorem normal_in_range {f e fr : Nat} (he : e ≤ 2 * fmtBias f + 1) (hfr : fr < 2 ^ fmtT f) (hn : NormalFields f e fr) :
    magGt (2 ^ fmtT f + fr) ((e : Int) - fmtBias f - fmtT f) (fmtMax f).1 (fmtMax f).2 = false := by
  obtain ⟨-, htop⟩ := hn
  by_cases h1 : f = 1
  · subst h1
    exact e4m3_normal_in_range he hfr htop
  · rw [if_neg h1] at htop
    have hE := two_pow_fmtE f
    exact magGt_of_significand_le (grid_le_fmtMax_exponent (by omega) (absurd · h1))
      (le_fmtMax_significand (by rw [Nat.pow_succ]; omega) (absurd · h1))

theorem log2_normal {t fr : Nat} (h : fr < 2 ^ t) : Nat.log2 (2 ^ t + fr) = t :=
  (Nat.log2_eq_iff (by have := Nat.two_pow_pos t; omega)).2 ⟨by omega, by rw [Nat.pow_succ]; omega⟩

/-! Encoding puts the fields back. -/

theorem encodeFin_subnormal {f n : Nat} (neg : Bool) (q : Int) (hf : f ≠ 5) (hn : n ≠ 0) (hlt : n < 2 ^ fmtT f) :
    encodeFin f neg n q = fmtZero f neg + n := by
  have hne : n ≠ 2 ^ (fmtT f + 1) := by rw [Nat.pow_succ]; omega
  simp only [encodeFin, fmtZero, hf, hn, hne, hlt, if_false, if_true]

theorem encodeFin_normal {f fr : Nat} (neg : Bool) (e : Nat) (hf : f ≠ 5) (hfr : fr < 2 ^ fmtT f) :
    encodeFin f neg (2 ^ fmtT f + fr) ((e : Int) - fmtBias f - fmtT f) = fmtZero f neg + e * 2 ^ fmtT f + fr := by
  have hne : 2 ^ fmtT f + fr ≠ 2 ^ (fmtT f + 1) := by rw [Nat.pow_succ]; omega
  have hn0 : 2 ^ fmtT f + fr ≠ 0 := by have := Nat.two_pow_pos (fmtT f); omega
  have hge : ¬ 2 ^ fmtT f + fr < 2 ^ fmtT f := Nat.not_lt.2 (Nat.le_add_right _ _)
  have he : ((e : Int) - fmtBias f - fmtT f + fmtT f + fmtBias f).toNat = e := by omega
  simp only [encodeFin, fmtZero, hf, hne, hn0, hge, he, if_false, Nat.add_sub_cancel_left]

theorem roundFin_subnormal {f fr : Nat} (r : Rnd) (neg : Bool) (hf : f ≠ 5) (hfr : fr < 2 ^ fmtT f) :
    roundFin f r neg fr (1 - (fmtBias f : Int) - fmtT f) = fmtZero f neg + fr := by
  by_cases h0 : fr = 0
  · simp [roundFin, hf, h0]
  · have hlog : Nat.log2 fr < fmtT f := (Nat.log2_lt h0).2 hfr
    rw [roundFin_of_representable r neg hf h0 (by omega) (subnormal_in_range hfr), encodeFin_subnormal neg _ hf h0 hfr]

theorem roundFin_normal {f e fr : Nat} (r : Rnd) (neg : Bool) (hf : f ≠ 5) (he : e ≤ 2 * fmtBias f + 1) (hfr : fr < 2 ^ fmtT f)
    (hn : NormalFields f e fr) :
    roundFin f r neg (2 ^ fmtT f + fr) ((e : Int) - fmtBias f - fmtT f) = fmtZero f neg + e * 2 ^ fmtT f + fr := by
  have ⟨he0, _⟩ := hn
  have hgrid : max ((Nat.log2 (2 ^ fmtT f + fr) : Int) + ((e : Int) - fmtBias f - fmtT f) - fmtT f)
      (1 - (fmtBias f : Int) - fmtT f) = (e : Int) - fmtBias f - fmtT f := by
    rw [log2_normal hfr]
    omega
  have hm : 2 ^ fmtT f + fr ≠ 0 := by have := Nat.two_pow_pos (fmtT f); omega
  rw [roundFin_of_representable r neg hf hm hgrid (normal_in_range he hfr hn), encodeFin_normal neg e hf hfr]

theorem fmtInf_eq {f : Nat} (neg : Bool) (hf : f ≠ 5) (h1 : f ≠ 1) :
    fmtInf f neg = fmtZero f neg + (2 ^ fmtE f - 1) * 2 ^ fmtT f := by
  simp [fmtInf, fmtZero, hf, h1, Nat.add_comm]

/-- A floating pattern that is not NaN survives decoding and rounding in every rounding mode, with or without SAT. -/
theorem roundNum_decodeNum_float {f x : Nat} (r : Rnd) (hf : f < 5) (hx : x < 2 ^ (8 * fmtSize f))
    (hnan : (decodeNum f x).isNaN = false) : roundNum f r (decodeNum f x) = x := by
  have h5 : f ≠ 5 := by omega
  have hfields := pattern_eq_fields hf hx
  rcases decodeNum_cases h5 x with h | ⟨h1, he, hfr, h⟩ | ⟨he, h⟩ | ⟨hn, h⟩
  · simp [h, XVal.isNaN] at hnan
  · rw [h, roundNum, fmtInf_eq _ h5 h1, ← he]
    omega
  · rw [h, roundNum, roundFin_subnormal r _ h5 (fracField_lt f x)]
    rw [he] at hfields
    omega
  · rw [h, roundNum, roundFin_normal r _ h5 (expField_le f x) (fracField_lt f x) hn, hfields]

theorem roundFin_int8 (r : Rnd) (neg : Bool) (m : Nat) :
    roundFin 5 r neg m 0 = if neg then (256 - min m 128) % 256 else min m 127 := by simp [roundFin]

/-- int8 (R28, R37): the grid is the integers and the saturation range is the format's own. -/
theorem roundNum_decodeNum_int8 {x : Nat} (r : Rnd) (hx : x < 256) : roundNum 5 r (decodeNum 5 x) = x := by
  have hmod : x % 256 = x := Nat.mod_eq_of_lt hx
  by_cases hneg : x < 128
  · have hd : decodeNum 5 x = .fin false x 0 := by simp [decodeNum, hmod, hneg]
    simp only [hd, roundNum, roundFin_int8, Bool.false_eq_true, if_false]
    omega
  · have hd : decodeNum 5 x = .fin true (256 - x) 0 := by simp [decodeNum, hmod, hneg]
    simp only [hd, roundNum, roundFin_int8, if_true]
    omega

theorem formatRoundTrip : Claims.FormatRoundTrip := by
  intro f x hf hx hnan
  rcases Nat.lt_succ_iff_lt_or_eq.1 hf with h | rfl
  · exact roundNum_decodeNum_float {} h hx hnan
  · exact roundNum_decodeNum_int8 {} hx

/-! Sums of exact records (R33), taken at an anchor below both. -/

theorem atAnchor_add (v w a b : Int) : atAnchor (v + w) a b = atAnchor v a b + atAnchor w a b := Int.add_mul _ _ _

/-- Lowering the anchor in two moves is lowering it in one. -/
theorem atAnchor_atAnchor (w : Int) {a b c : Int} (hc : c ≤ a) (hb : b ≤ c) : atAnchor (atAnchor w a c) c b = atAnchor w a b := by
  have hk : (a - b).toNat = (a - c).toNat + (c - b).toNat := by omega
  simp [atAnchor, hk, Int.pow_add, Int.mul_assoc]

theorem Epr.windowAt_of_le {r : Epr} {b : Int} (h : b ≤ r.a) : r.windowAt b = atAnchor r.w r.a b := if_pos h

@[simp] theorem Epr.add_a (x y : Epr) : (x.add y).a = min x.a y.a := rfl
@[simp] theorem Epr.add_w (x y : Epr) :
    (x.add y).w = atAnchor x.w x.a (min x.a y.a) + atAnchor y.w y.a (min x.a y.a) := rfl
@[simp] theorem Epr.add_nan (x y : Epr) : (x.add y).nan = (x.nan || y.nan) := rfl
@[simp] theorem Epr.add_pinf (x y : Epr) : (x.add y).pinf = (x.pinf || y.pinf) := rfl
@[simp] theorem Epr.add_ninf (x y : Epr) : (x.add y).ninf = (x.ninf || y.ninf) := rfl
@[simp] theorem Epr.add_negz (x y : Epr) : (x.add y).negz = (x.negz && y.negz) := rfl

theorem Epr.windowAt_add {x y : Epr} {b : Int} (hx : b ≤ x.a) (hy : b ≤ y.a) :
    (x.add y).windowAt b = x.windowAt b + y.windowAt b := by
  have hb : b ≤ min x.a y.a := Int.le_min.2 ⟨hx, hy⟩
  rw [windowAt_of_le hx, windowAt_of_le hy, windowAt_of_le (r := x.add y) hb, add_w, add_a, atAnchor_add,
    atAnchor_atAnchor _ (Int.min_le_left _ _) hb, atAnchor_atAnchor _ (Int.min_le_right _ _) hb]

@[simp] theorem Epr.windowAt_empty (b : Int) : Epr.empty.windowAt b = 0 := by
  simp [windowAt, atAnchor, empty]

theorem Epr.flagBits_add_comm (x y : Epr) : (x.add y).flagBits = (y.add x).flagBits := by
  simp [flagBits, Bool.or_comm, Bool.and_comm]

theorem Epr.flagBits_add_assoc (x y z : Epr) : ((x.add y).add z).flagBits = (x.add (y.add z)).flagBits := by
  simp [flagBits, Bool.or_assoc, Bool.and_assoc]

theorem Epr.flagBits_add_empty (x : Epr) : (x.add Epr.empty).flagBits = x.flagBits := by
  simp [flagBits, empty]

theorem recordSumIsExact : Claims.RecordSumIsExact := by
  intro x y z b hx hy hz h0
  have hxy : b ≤ (x.add y).a := Int.le_min.2 ⟨hx, hy⟩
  have hyz : b ≤ (y.add z).a := Int.le_min.2 ⟨hy, hz⟩
  have hcomm : (x.add y).windowAt b = (y.add x).windowAt b := by
    rw [Epr.windowAt_add hx hy, Epr.windowAt_add hy hx, Int.add_comm]
  have hassoc : ((x.add y).add z).windowAt b = (x.add (y.add z)).windowAt b := by
    rw [Epr.windowAt_add hxy hz, Epr.windowAt_add hx hyz, Epr.windowAt_add hx hy, Epr.windowAt_add hy hz, Int.add_assoc]
  have hempty : (x.add Epr.empty).windowAt b = x.windowAt b := by
    rw [Epr.windowAt_add hx h0, Epr.windowAt_empty, Int.add_zero]
  exact ⟨Epr.windowAt_add hx hy, rfl, rfl, rfl, rfl, ⟨hcomm, Epr.flagBits_add_comm x y⟩, ⟨hassoc, Epr.flagBits_add_assoc x y z⟩,
    ⟨hempty, Epr.flagBits_add_empty x⟩, Epr.windowAt_empty b, rfl⟩

/-- Settles O22: a finite pattern decodes onto its format's grid, within its range, and record sums are exact at any common anchor. -/
theorem numberFormats : Obligations.NumberFormats := ⟨formatRoundTrip, recordSumIsExact⟩

end Sys2Proof.Machine
end

section
/-! The rollback floor (R336, R368): which fuses a command blows, and the load of an image below the floor. -/

namespace Sys2Proof.Machine

/-! An event register that is set (R381), and a load attempt that fails (R348 to R350). -/

@[simp] theorem Mod.msix_reg (m : Mod) (fn vec : Nat) : (m.msix fn vec).reg = m.reg := by unfold Mod.msix; split <;> rfl
@[simp] theorem Mod.msix_ld (m : Mod) (fn vec : Nat) : (m.msix fn vec).ld = m.ld := by unfold Mod.msix; split <;> rfl

@[simp] theorem Mod.putEv_reg (m : Mod) (off bits : Nat) : (m.putEv off bits).reg = (m.rput off (m.rg off ||| bits)).reg := by
  unfold Mod.putEv
  split
  · split
    · exact Mod.msix_reg _ _ _
    · rfl
  · rfl
@[simp] theorem Mod.putEv_ld (m : Mod) (off bits : Nat) : (m.putEv off bits).ld = m.ld := by
  unfold Mod.putEv
  split
  · split
    · exact Mod.msix_ld _ _ _
    · rfl
  · rfl

/-- An event register holds the bits set in it (R381). -/
theorem Mod.rg_putEv_same (m : Mod) (off bits : Nat) : (m.putEv off bits).rg off = (m.rg off ||| bits) % 2 ^ 32 := by
  rw [Mod.rg, Mod.putEv_reg]
  exact Mod.rg_rput_same m off _

/-- A failed attempt shows its code, its detail, ATTEMPT_FAILED and ALERT_N, and starts anew or leaves the load failed (R348 to R350). -/
theorem loadFailed_attemptFail (s : State) (code detail : Nat) (h : s.m.reg.parityOk = true) :
    s.loadFailed (s.on fun m => m.attemptFail code detail) code ∧ (s.m.attemptFail code detail).ld.detail = detail := by
  have hevent : ∀ g, (s.m.ldMap g).glbEvent 2 = (s.m.ldMap g).putEv evGlb (2 ^ 2) := fun g => Mod.raiseEv_ok _ _ _ h
  have hbit : ∀ g, (((s.m.ldMap g).putEv evGlb (2 ^ 2)).rg 0x20).testBit 2 = true := fun g => by
    rw [show (0x20 : Nat) = evGlb from rfl, Mod.rg_putEv_same, Nat.testBit_mod_two_pow, Nat.testBit_or, Nat.testBit_two_pow_self]
    simp
  have halert : ∀ n : Nat, (n ||| 1).testBit 0 = true := fun n => by simp
  unfold State.loadFailed
  rw [State.on_m, Mod.attemptFail]
  simp only [hevent]
  by_cases hr : retried code = true ∧ s.m.ld.attempt < 3
  · rw [if_pos hr, if_pos hr]
    refine ⟨⟨?_, ?_, hbit _, halert _, rfl⟩, ?_⟩ <;> simp [Mod.ldMap, Load.restart]
  · rw [if_neg hr, if_neg hr]
    refine ⟨⟨?_, ?_, hbit _, halert _, rfl⟩, ?_⟩ <;> simp [Mod.ldMap, Load.restart]

/-- The header is well formed for this unit and its SEC_VERSION is below the floor: phase 1 fails with ROLLBACK (R332, R368). -/
theorem headerBad_rollback {nv : NonVol} {x : Nat} (hx : leNat (nv.bytes 0 256) = x) (hmagic : fld x 63 0 = 0x4D494E4F4D52414B)
    (hformat : fld x 191 160 = 1) (hseg : 1 ≤ hSeg x) (hseg' : hSeg x ≤ 4090) (hzero : fld x 2047 576 = 0) (hmodel : fld x 95 64 = 0x1152)
    (hunit : fld x 255 192 = 0 ∨ fld x 255 192 = Config.unitId) (hold : hSec x < nv.floor) :
    nv.headerBad = some (0x0C03, nv.floor) := by
  have hform : ¬ (fld x 63 0 ≠ 0x4D494E4F4D52414B ∨ fld x 191 160 ≠ 1 ∨ hSeg x = 0 ∨ 4090 < hSeg x ∨ fld x 2047 576 ≠ 0) := by
    omega
  have hhere : ¬ (fld x 95 64 ≠ 0x1152 ∨ (fld x 255 192 ≠ 0 ∧ fld x 255 192 ≠ Config.unitId)) := by
    omega
  unfold NonVol.headerBad
  simp only [hx]
  rw [if_neg hform, if_neg hhere, if_pos hold]

theorem exec_loadHeader_failed {s : State} {code detail : Nat} (hl : s.m.loads 1 = true) (hb : s.nv.headerBad = some (code, detail)) :
    exec .loadHeader s = .next (s.on fun m => m.attemptFail code detail) := by
  change execLoadHeader s = _
  simp only [execLoadHeader, State.on, hl, hb, Bool.not_true, Bool.false_eq_true, if_false]

/-! A register access of the PF that nothing keeps waiting. -/

/-- An access of registers with none waiting takes effect at once (R216). -/
theorem State.host_bar0 {s : State} {x : HostAcc} (hx : x.space = .bar0) (hq : s.m.sleepers = []) : s.host x = s.perform x := by
  have hgo : s.m.hostGoes x = true := by simp [Mod.hostGoes, hx, hq]
  simp [State.host, hq, hgo]

/-- A write of a PF register that lies in a block that answers, at its own offset (R382). -/
theorem State.pfWrite_register {s : State} {off v : Nat} (hr : s.m.hostReach 0 = true) (hq : s.m.sleepers = []) (hoff : off % 4 = 0)
    (hopen : s.m.shut off = false) (hplain : aliasOf off = none) (hv : leNat (natLE 4 v) = v) :
    s.pfWrite off v = (s.writeReg off v (beMask 15)).on fun m => m.answer [] false := by
  have hto : (!s.m.hostReach 0 || decide (64 ≤ 0) || off % 4 != 0) = false := by simp [hr, hoff]
  rw [State.pfWrite, State.bar0, if_neg (ne_true_of_eq_false hto), State.host_bar0 rfl hq]
  simp [State.perform, State.bar0Write, hr, hoff, hopen, hplain, hv]

/-- A guarded write of CFG_FLOOR_CMD raises the floor (R368, R387). -/
theorem State.writeReg_floorCmd (s : State) : s.writeReg 0x300030 0x5AFE0001 (beMask 15) = s.raise := by
  have hmask : beMask 15 = 0xFFFFFFFF := by decide
  have hrow : regRow? 0x300030 = some { wo := 0xFFFF0001 } := by decide
  have hlo : isLo 0x300030 = false := by decide
  have hhi : isHi 0x300030 = false := by decide
  have hcmd : s.act 0x300030 0x5AFE0001 = s.raise := rfl
  have hstore : ∀ m : Mod, m.regStore 0x300030 0x5AFE0001 0xFFFFFFFF = m := fun m => by simp [Mod.regStore, hrow]
  simp [State.writeReg, hmask, hrow, hlo, hhi, hstore, mbLock, State.on, hcmd]

theorem exec_raiseFloor {s : State} (hr : s.m.hostReach 0 = true) (hq : s.m.sleepers = []) :
    exec .raiseFloor s = .next (s.raise.on fun m => m.answer [] false) := by
  have hw := State.pfWrite_register (s := s) (off := 0x300030) (v := 0x5AFE0001) hr hq rfl (by simp [Mod.shut]) (by decide) (by decide)
  rw [State.writeReg_floorCmd] at hw
  exact congrArg Host.Outcome.next hw

/-! The floor is the number of blown fuses, at most 64 (R336). -/

theorem NonVol.floor_mono {a b : NonVol} (h : a.blown ≤ b.blown) : a.floor ≤ b.floor := by
  unfold NonVol.floor
  change min 64 (Config.floorFuses + a.blown) ≤ min 64 (Config.floorFuses + b.blown)
  omega

/-- The fuses blown by RAISE put the floor at the SEC_VERSION (R368). -/
theorem NonVol.floor_raised {nv : NonVol} {sec : Nat} (h : nv.floor < sec) : (nv.raised sec).floor = min 64 sec := by
  have hf : nv.floor = min 64 (Config.floorFuses + nv.blown) := rfl
  change min 64 (Config.floorFuses + (nv.blown + (min 64 sec - nv.floor))) = min 64 sec
  omega

/-! No operation unblows a fuse. -/

theorem State.blown_le_ite {c : Prop} [Decidable c] {s a b : State} (ha : s.nv.blown ≤ a.nv.blown) (hb : s.nv.blown ≤ b.nv.blown) :
    s.nv.blown ≤ (if c then a else b).nv.blown := by
  split
  · exact ha
  · exact hb

theorem State.blown_le_raise (s : State) : s.nv.blown ≤ s.raise.nv.blown :=
  blown_le_ite (Nat.le_add_right _ _) (Nat.le_refl _)

theorem State.blown_le_floorCmd (s : State) (v : Nat) : s.nv.blown ≤ (s.floorCmd v).nv.blown :=
  blown_le_ite (Nat.le_refl _) (blown_le_ite s.blown_le_raise (Nat.le_refl _))

@[simp] theorem State.cutFlash_blown (s : State) : s.cutFlash.nv.blown = s.nv.blown := by
  unfold State.cutFlash
  split <;> rfl

theorem State.blown_le_flashIdle (s : State) : s.nv.blown ≤ s.flashIdle.nv.blown :=
  blown_le_ite (Nat.le_refl _) (Nat.le_refl _)

@[simp] theorem State.live_nv (s : State) (f : Mod → Mod) : (s.live f).nv = s.nv := by
  unfold State.live
  split <;> rfl

@[simp] theorem State.eraseCmd_blown (s : State) (sector : Nat) : (s.eraseCmd sector).nv.blown = s.nv.blown := by
  unfold State.eraseCmd State.using
  split
  · dsimp only
    split <;> rfl
  · rfl

@[simp] theorem State.warmRequest_blown (s : State) (cause : Nat) : (s.warmRequest cause).nv.blown = s.nv.blown := by
  unfold State.warmRequest
  dsimp only
  split
  · exact State.cutFlash_blown _
  · rfl

@[simp] theorem State.safeCmd_blown (s : State) (v : Nat) : (s.safeCmd v).nv.blown = s.nv.blown := by
  unfold State.safeCmd
  split
  · rfl
  split
  · exact s.warmRequest_blown 3
  split
  · exact s.cutFlash_blown
  · rfl

theorem State.blown_le_act (s : State) (off v : Nat) : s.nv.blown ≤ (s.act off v).nv.blown := by
  unfold State.act
  split
  · exact Nat.le_of_eq (s.safeCmd_blown v).symm
  · exact blown_le_ite (Nat.le_of_eq (s.eraseCmd_blown _).symm) (Nat.le_refl _)
  · exact s.blown_le_floorCmd v
  · exact blown_le_ite (Nat.le_refl _) (Nat.le_refl _)
  all_goals exact Nat.le_refl _

theorem State.blown_le_writeReg (s : State) (off v mask : Nat) : s.nv.blown ≤ (s.writeReg off v mask).nv.blown := by
  unfold State.writeReg
  refine blown_le_ite (Nat.le_refl _) (blown_le_ite (blown_le_ite (Nat.le_refl _) (Nat.le_refl _)) (blown_le_ite (blown_le_ite (Nat.le_refl _) (Nat.le_refl _))
    (blown_le_ite (Nat.le_refl _) (blown_le_ite (Nat.le_refl _) ?_))))
  split
  · exact Nat.le_refl _
  next r _ =>
    -- what the write stores and its side effects leave the fuses to the command of the WO fields
    suffices hact : ∀ s2 : State, s2.nv = s.nv →
        s.nv.blown ≤ (if r.wo &&& mask = 0 then s2 else s2.act off (v &&& mask)).nv.blown from
      hact _ (by (repeat' split) <;> rfl)
    intro s2 h2
    rw [← h2]
    exact blown_le_ite (Nat.le_refl _) (s2.blown_le_act _ _)

theorem State.blown_le_aliasWrite (s : State) (reg b : Nat) (x : Bool) : s.nv.blown ≤ (s.aliasWrite reg b x).nv.blown :=
  blown_le_ite (Nat.le_refl _) (s.blown_le_writeReg _ _ _)

theorem State.blown_le_bar0Write (s : State) (fn off v be : Nat) : s.nv.blown ≤ (s.bar0Write fn off v be).nv.blown := by
  unfold State.bar0Write
  refine blown_le_ite (Nat.le_refl _) (blown_le_ite (Nat.le_refl _) (blown_le_ite (Nat.le_refl _) ?_))
  rw [State.on_nv]
  split
  · exact blown_le_ite (s.blown_le_aliasWrite _ _ _) (Nat.le_refl _)
  · exact s.blown_le_writeReg _ _ _

@[simp] theorem State.aliasRead_nv (s : State) (reg b be : Nat) : (s.aliasRead reg b be).2.nv = s.nv := by
  unfold State.aliasRead
  dsimp only
  (repeat' split) <;> rfl

@[simp] theorem State.readReg_nv (s : State) (off be : Nat) : (s.readReg off be).2.nv = s.nv := by
  unfold State.readReg State.latchHi
  dsimp only
  (repeat' split) <;> rfl

@[simp] theorem State.bar0Read_nv (s : State) (fn off be : Nat) : (s.bar0Read fn off be).nv = s.nv := by
  unfold State.bar0Read
  split
  · rfl
  split
  · rfl
  split
  · rfl
  dsimp only
  rw [State.on_nv]
  split
  · exact s.aliasRead_nv _ _ _
  · exact s.readReg_nv _ _

@[simp] theorem State.bar4Write_blown (s : State) (off : Nat) (data : List Byte) : (s.bar4Write off data).2.nv.blown = s.nv.blown := by
  unfold State.bar4Write
  (repeat' split) <;> rfl

theorem State.blown_le_perform (x : HostAcc) (s : State) : s.nv.blown ≤ (s.perform x).nv.blown := by
  unfold State.perform
  split
  · exact blown_le_ite (s.blown_le_bar0Write _ _ _ _) (Nat.le_of_eq (congrArg NonVol.blown (s.bar0Read_nv _ _ _).symm))
  · exact blown_le_ite (Nat.le_refl _) (Nat.le_refl _)
  · exact Nat.le_refl _
  · refine blown_le_ite ?_ (Nat.le_refl _)
    rw [State.on_nv]
    have hw := Nat.le_of_eq (s.bar4Write_blown x.addr x.data).symm
    exact blown_le_ite hw hw
  · exact blown_le_ite (Nat.le_refl _) (Nat.le_refl _)
  · exact blown_le_ite (Nat.le_refl _) (Nat.le_refl _)

theorem State.blown_le_hostDrain (l : List HostAcc) (s : State) : s.nv.blown ≤ (State.hostDrain l s).nv.blown := by
  induction l generalizing s with
  | nil => exact Nat.le_refl _
  | cons x xs ih =>
    refine Nat.le_trans ?_ (ih _)
    exact blown_le_ite (s.blown_le_perform x) (Nat.le_refl _)

theorem State.blown_le_hostAgain (s : State) : s.nv.blown ≤ s.hostAgain.nv.blown :=
  State.blown_le_hostDrain s.m.sleepers (s.on fun m => { m with sleepers := [] })

theorem State.blown_le_host (x : HostAcc) (s : State) : s.nv.blown ≤ (s.host x).nv.blown := by
  have hq : s.nv.blown ≤ (if s.m.sleepers.isEmpty then s else s.hostAgain).nv.blown := blown_le_ite (Nat.le_refl _) s.blown_le_hostAgain
  unfold State.host
  generalize (if s.m.sleepers.isEmpty then s else s.hostAgain) = s1 at hq ⊢
  exact blown_le_ite (Nat.le_trans hq (s1.blown_le_perform x)) hq

theorem State.blown_le_bar0 (fn off be v : Nat) (wr : Bool) (s : State) : s.nv.blown ≤ (s.bar0 fn off be v wr).nv.blown :=
  blown_le_ite (Nat.le_refl _) (s.blown_le_host _)

theorem State.blown_le_pfWrite (off v : Nat) (s : State) : s.nv.blown ≤ (s.pfWrite off v).nv.blown := s.blown_le_bar0 _ _ _ _ _

theorem State.blown_le_bar4 (off : Nat) (data : List Byte) (s : State) : s.nv.blown ≤ (s.bar4 off data).nv.blown :=
  blown_le_ite (Nat.le_refl _) (s.blown_le_host _)

theorem State.blown_le_bar2 (fn off n : Nat) (wr relaxed : Bool) (data : List Byte) (s : State) :
    s.nv.blown ≤ (s.bar2 fn off n wr relaxed data).nv.blown := by
  unfold State.bar2
  refine blown_le_ite (Nat.le_refl _) (blown_le_ite (Nat.le_refl _) (blown_le_ite (Nat.le_refl _) ?_))
  split
  · exact s.blown_le_host _
  · exact Nat.le_refl _

/-- The runs of bytes of a BAR4 write go one after another (R379). -/
theorem State.blown_le_bar4Runs (off : Nat) (rs : List (Nat × List Byte)) (s : State) :
    s.nv.blown ≤ (rs.foldl (fun s r => s.bar4 (off + r.1) r.2) s).nv.blown := by
  induction rs generalizing s with
  | nil => exact Nat.le_refl _
  | cons r rs ih => exact Nat.le_trans (s.blown_le_bar4 _ _) (ih _)

theorem State.blown_le_dword (fn : Nat) (p : Place) (be v : Nat) (wr : Bool) (s : State) :
    s.nv.blown ≤ (s.dword fn p be v wr).nv.blown := by
  cases p with
  | bar0 off => exact s.blown_le_bar0 _ _ _ _ _
  | bar4 off =>
    exact blown_le_ite (Nat.le_refl _) (blown_le_ite (Nat.le_refl _)
      (blown_le_ite (State.blown_le_bar4Runs off _ (s.on fun m => m.answer [] false)) (s.blown_le_host _)))
  | cfg off => exact blown_le_ite (Nat.le_refl _) (blown_le_ite (Nat.le_refl _) (s.blown_le_host _))
  | msix off => exact blown_le_ite (Nat.le_refl _) (s.blown_le_host _)

/-! Every command answers, and no fuse it finds blown is unblown (R336, R368). -/

/-- Each command acts on the module alone, or is an access of the host, or one of the flash, the resets and the power. -/
theorem exec_blown_le (c : Instr) (s : State) : Answers c s fun t => s.nv.blown ≤ t.nv.blown := by
  cases c with
  -- accesses through BAR2 and of registers in any place
  | hostBar2Write _ _ _ _ | hostBar2Read _ _ _ => exact ⟨_, rfl, s.blown_le_bar2 _ _ _ _ _ _⟩
  | rcRegisterRead _ _ _ | registerWrite _ _ _ _ => exact ⟨_, rfl, s.blown_le_dword _ _ _ _ _⟩
  | workBitmapWrite _ _ _ => exact ⟨_, rfl, State.blown_le_ite (s.blown_le_host _) (Nat.le_refl _)⟩
  -- reads and writes of one register
  | meterTake => exact ⟨_, rfl, s.blown_le_bar0 _ _ _ _ _⟩
  | clearHalt _ | safeSleepCtrlWrite _ | fltClear | fltInject _ | safeWarmReset | safeReload | winCmdRead | winCmdWrite | winCmdClose
  | routeCmdRead | routeCmdWrite | mboxLock _ | raiseFloor | flashErase _ => exact ⟨_, rfl, s.blown_le_pfWrite _ _⟩
  | pairHiWrite _ _ | meterConfigWrite _ _ | portRestore _ | portDisable _ | portEnable _ =>
    exact ⟨_, rfl, State.blown_le_ite (s.blown_le_pfWrite _ _) (Nat.le_refl _)⟩
  | cmdReject _ => exact ⟨_, rfl, State.blown_le_ite (s.blown_le_pfWrite _ _) (State.blown_le_ite (s.blown_le_pfWrite _ _) (Nat.le_refl _))⟩
  | aliasAccess _ _ _ => exact ⟨_, rfl, State.blown_le_ite (Nat.le_refl _) (s.blown_le_bar0 _ _ _ _ _)⟩
  | pairLoRead _ => exact ⟨_, rfl, State.blown_le_ite (s.blown_le_bar0 _ _ _ _ _) (Nat.le_refl _)⟩
  | grmPositionWrite _ _ =>
    exact ⟨_, rfl, State.blown_le_ite (Nat.le_trans (s.blown_le_pfWrite _ _) (State.blown_le_pfWrite _ _ _)) (Nat.le_refl _)⟩
  -- the mailbox and the flash behind BAR4
  | getReport | getCert | mboxRelease | flashWrite _ _ => exact ⟨_, rfl, s.blown_le_bar4 _ _⟩
  | mboxFormat _ => exact ⟨_, rfl, State.blown_le_ite (s.blown_le_bar4 _ _) (Nat.le_refl _)⟩
  | flashEraseDone =>
    refine ⟨_, rfl, ?_⟩
    split
    · next k _ => exact State.blown_le_flashIdle { s with nv := { s.nv with flash := mclear s.nv.flash (65536 * k) 65536, erase := none } }
    · exact Nat.le_refl _
  | flashPageProgrammed =>
    have hgo := State.blown_le_hostAgain
      { s with nv := { s.nv with flash := program s.nv.flash s.nv.page, buf := s.nv.buf.drop s.nv.page.length } }
    exact ⟨_, rfl, State.blown_le_ite (Nat.le_refl _) (Nat.le_trans hgo (State.blown_le_flashIdle _))⟩
  -- resets, wakes and the power
  | warmReset cause => exact ⟨_, rfl, State.blown_le_ite (Nat.le_of_eq (s.warmRequest_blown cause).symm) (Nat.le_refl _)⟩
  | holdoffEnd =>
    have hcut : s.nv.blown ≤ (s.cutFlash.on Mod.warmBody).nv.blown := Nat.le_of_eq s.cutFlash_blown.symm
    exact ⟨_, rfl, State.blown_le_ite (Nat.le_trans hcut (State.blown_le_hostAgain _)) (Nat.le_refl _)⟩
  | wakeToNapDone die => exact ⟨_, rfl, State.blown_le_ite (State.blown_le_hostAgain (s.on fun m => m.leaveDeep die)) (Nat.le_refl _)⟩
  | powerLoss => exact ⟨_, rfl, Nat.le_of_eq s.cutFlash_blown.symm⟩
  -- the fabric, whose clocks stand in a contained module
  | slideChangeStart _ | tokenHead _ _ | steerFire _ _ | slideChangeDone _ | commitArrive _ | carouselDescriptor _ _ | tileSwitch _ =>
    exact ⟨_, rfl, Nat.le_of_eq (congrArg NonVol.blown (s.live_nv _).symm)⟩
  -- every other command is an effect on the module
  | _ => exact ⟨_, rfl, Nat.le_refl s.nv.blown⟩

/-- No step unblows a fuse, so none lowers the floor (R368). -/
theorem step_blown_le {s t : State} (h : step s = .next t) : s.nv.blown ≤ t.nv.blown := by
  cases hp : s.pending with
  | nil =>
    rw [step_nil s hp] at h
    cases h
    exact Nat.le_refl _
  | cons c rest =>
    rw [step_cons s c rest hp] at h
    obtain ⟨t', ht, hle⟩ := exec_blown_le c { s with pending := rest }
    rw [ht] at h
    cases h
    exact hle

/-! R368. -/

/-- RAISE acts where an image is active whose SEC_VERSION is above the floor, and nowhere else (R368). -/
theorem State.raise_eq_raised {s : State} (ha : s.m.ld.active = true) (hs : s.nv.floor < s.m.img.sec) :
    s.raise = { s with nv := s.nv.raised s.m.img.sec } := if_pos ⟨ha, hs⟩

theorem State.raise_eq_self {s : State} (h : s.m.ld.active = false ∨ s.m.img.sec ≤ s.nv.floor) : s.raise = s := by
  refine if_neg ?_
  rintro ⟨ha, hs⟩
  rcases h with h | h
  · simp [h] at ha
  · omega

/-- Settles O53: RAISE blows the fuses up to the SEC_VERSION of the active image; the number of blown fuses, with which the floor rises,
falls at no step, by one case per kind of command; the header of an older image fails phase 1 with ROLLBACK. -/
theorem floorNeverFalls : Obligations.FloorNeverFalls := by
  refine ⟨fun s hr hq => ⟨fun ha hs => ?_, fun hn => ?_⟩, fun s t h => ?_, ?_⟩
  · refine ⟨_, exec_raiseFloor hr hq, ?_⟩
    rw [State.raise_eq_raised ha hs]
    exact ⟨NonVol.floor_raised hs, rfl, rfl, rfl, rfl⟩
  · refine ⟨_, exec_raiseFloor hr hq, ?_⟩
    rw [State.raise_eq_self hn]
    exact ⟨rfl, rfl⟩
  · have hle := step_blown_le h
    exact ⟨hle, NonVol.floor_mono hle⟩
  · intro s hl hp x hmagic hformat hseg hseg' hzero hmodel hunit hold
    have hbad := headerBad_rollback rfl hmagic hformat hseg hseg' hzero hmodel hunit hold
    obtain ⟨hfail, hdetail⟩ := loadFailed_attemptFail s 0x0C03 s.nv.floor hp
    exact ⟨_, exec_loadHeader_failed hl hbad, hfail, hdetail, rfl⟩

end Sys2Proof.Machine
end

section
/-! Registers that command, and the vectors of events (R380 to R382, R385, R387, R389, R394). -/

namespace Sys2Proof.Machine

/-! Words of a register access: bytes, bits and fields. -/

theorem leNat_natLE (n x : Nat) : leNat (natLE n x) = x % 256 ^ n := by
  induction n generalizing x with
  | zero => simp [natLE, leNat, Nat.mod_one]
  | succ n ih => simp [natLE, leNat, ih, Nat.pow_succ, Nat.mul_comm, Nat.mod_mul]

theorem natLE_mod (n x : Nat) : natLE n (x % 256 ^ n) = natLE n x := by
  induction n generalizing x with
  | zero => rfl
  | succ n ih =>
    have hlow : BitVec.ofNat 8 (x % 256 ^ (n + 1)) = BitVec.ofNat 8 x := by
      refine BitVec.eq_of_toNat_eq ?_
      rw [BitVec.toNat_ofNat, BitVec.toNat_ofNat, Nat.pow_succ]
      exact Nat.mod_mul_left_mod x (256 ^ n) 256
    have hrest : x % 256 ^ (n + 1) / 256 = x / 256 % 256 ^ n := by
      rw [Nat.pow_succ, Nat.mul_comm, Nat.mod_mul_right_div_self]
    rw [natLE, hlow, hrest, ih, natLE]

/-- The mask of four enabled bytes. -/
theorem beMask_all : beMask 15 = 2 ^ 32 - 1 := by decide

theorem fld_eq (x hi lo : Nat) : fld x hi lo = x / 2 ^ lo % 2 ^ (hi + 1 - lo) := by
  rw [fld, Nat.shiftRight_eq_div_pow]

/-- Bits that a mask of the low n bits picks replace the low n bits. -/
theorem mergeBits_low (old v n : Nat) : mergeBits old v (2 ^ n - 1) = old - old % 2 ^ n + v % 2 ^ n := by
  simp only [mergeBits, Nat.and_two_pow_sub_one_eq_mod]

theorem mergeBits_word {old v : Nat} (ho : old < 2 ^ 32) (hv : v < 2 ^ 32) : mergeBits old v (2 ^ 32 - 1) = v := by
  rw [mergeBits_low, Nat.mod_eq_of_lt ho, Nat.mod_eq_of_lt hv]
  omega

/-! Stored registers hold 32 bits (R380). -/

theorem regReset_lt (off : Nat) : regReset off < 2 ^ 32 := by
  have hrows : ∀ p ∈ regRows, p.2.reset < 2 ^ 32 := by decide
  have hfind : ∀ k p, regRows.find? (fun p => p.1 == k) = some p → p.2.reset < 2 ^ 32 :=
    fun k p h => hrows p (List.mem_of_find?_eq_some h)
  -- a meter's register takes the row of the selected meter's
  have hmeter : ∀ k, (((regRows.find? fun p => p.1 == k).map fun p => p.2).map fun r => r.reset).getD 0 < 2 ^ 32 := fun k => by
    cases h : regRows.find? (fun p => p.1 == k) with
    | none => decide
    | some p => exact hfind k p h
  unfold regReset regRow?
  split
  · next p h => exact hfind _ p h
  · repeat' split
    iterate 9 · decide
    · exact hmeter _
    · decide

theorem Mod.rg_lt (m : Mod) (off : Nat) : m.rg off < 2 ^ 32 := by
  unfold Mod.rg RegFile.get
  cases tget? m.reg.v off with
  | none => exact regReset_lt off
  | some w => exact w.isLt

/-! What the answer to a host access leaves of the messages. -/

@[simp] theorem Mod.answer_sent (m : Mod) (data : List Byte) (ur : Bool) : (m.answer data ur).host.sent = m.host.sent := rfl
@[simp] theorem Mod.answer_writes (m : Mod) (data : List Byte) (ur : Bool) : (m.answer data ur).host.writes = m.host.writes := rfl

/-! Messages and event registers (R380, R381). -/

@[simp] theorem Mod.msix_mem (m : Mod) (fn vec : Nat) : (m.msix fn vec).mem = m.mem := by unfold Mod.msix; split <;> rfl
@[simp] theorem Mod.msix_grm (m : Mod) (fn vec : Nat) : (m.msix fn vec).grm = m.grm := by unfold Mod.msix; split <;> rfl

theorem Mod.msix_free {m : Mod} {fn vec : Nat} (h : (!m.masked fn vec && m.canSend fn) = true) : m.msix fn vec = m.sendMsix fn vec := by
  simp only [Bool.and_eq_true, Bool.not_eq_true'] at h
  simp [Mod.msix, h]

/-- A vector that is masked, or whose message cannot leave, is pending, and nothing is sent (R380). -/
theorem Mod.msix_held {m : Mod} {fn vec : Nat} (h : (!m.masked fn vec && m.canSend fn) = false) :
    (m.msix fn vec).host.sent = m.host.sent ∧ (m.msix fn vec).host.writes = m.host.writes ∧ (fn, vec) ∈ (m.msix fn vec).host.pba := by
  have hheld : (m.masked fn vec || !m.canSend fn) = true := by
    cases hm : m.masked fn vec with
    | true => rfl
    | false => simpa [hm] using h
  rw [Mod.msix, if_pos hheld]
  refine ⟨rfl, rfl, ?_⟩
  dsimp only
  split
  · next hin => exact List.contains_iff_mem.mp hin
  · simp

/-- A vector register is not its own event register. -/
theorem eventVec_ne {off voff : Nat} (h : eventVec off = some voff) : voff ≠ off := by
  unfold eventVec at h
  split at h <;> cases h <;> decide

/-- A bit set while others are set sends nothing (R381). -/
theorem Mod.raiseEv_of_set {m : Mod} {off bits : Nat} (h : m.rg off ≠ 0) : m.raiseEv off bits = m.rput off (m.rg off ||| bits) := by
  simp [Mod.raiseEv, Mod.evUnsound, Mod.putEv, Mod.evSends, h]

/-- An event register that leaves zero uses its vector (R381). -/
theorem Mod.raiseEv_of_zero {m : Mod} {off voff bits : Nat} (hvec : eventVec off = some voff) (hb : bits ≠ 0)
    (hs : m.reg.sound voff = true) (h : m.rg off = 0) : m.raiseEv off bits = (m.rput off bits).msix 0 (m.rg voff) := by
  have hsends : m.evSends off bits = some voff := by simp [Mod.evSends, h, hb, hvec]
  have hkeep : (m.rput off bits).rg voff = m.rg voff := Mod.rg_rput_other m bits (eventVec_ne hvec)
  simp [Mod.raiseEv, Mod.evUnsound, Mod.putEv, hsends, hs, h, hkeep]

theorem Mod.rg_putEv_other (m : Mod) {off k : Nat} (bits : Nat) (h : k ≠ off) : (m.putEv off bits).rg k = m.rg k := by
  rw [Mod.rg, Mod.putEv_reg]
  exact Mod.rg_rput_other m _ h

@[simp] theorem Mod.putEv_mem (m : Mod) (off bits : Nat) : (m.putEv off bits).mem = m.mem := by
  unfold Mod.putEv
  (repeat' split) <;> simp
@[simp] theorem Mod.putEv_grm (m : Mod) (off bits : Nat) : (m.putEv off bits).grm = m.grm := by
  unfold Mod.putEv
  (repeat' split) <;> simp

/-- Raising one bit of an event register sets it there, and leaves the other registers, the memory and the Groomers. -/
theorem Mod.raiseEv_bit {m : Mod} (off : Nat) {i : Nat} (hi : i < 32) (h : m.reg.parityOk = true) :
    ((m.raiseEv off (2 ^ i)).rg off).testBit i = true ∧ (m.raiseEv off (2 ^ i)).mem = m.mem ∧ (m.raiseEv off (2 ^ i)).grm = m.grm ∧
      ∀ k, k ≠ off → (m.raiseEv off (2 ^ i)).rg k = m.rg k := by
  rw [Mod.raiseEv_ok _ _ _ h]
  refine ⟨?_, m.putEv_mem _ _, m.putEv_grm _ _, fun k hk => m.rg_putEv_other _ hk⟩
  rw [Mod.rg_putEv_same, Nat.testBit_mod_two_pow, Nat.testBit_or, Nat.testBit_two_pow_self]
  simp [hi]

section
variable {m : Mod} {off voff bits : Nat}

/-- A register that leaves zero holds the bits set, whatever its vector does. -/
theorem Mod.rg_raiseEv_of_zero (hvec : eventVec off = some voff) (hb : bits ≠ 0) (hlt : bits < 2 ^ 32) (hs : m.reg.sound voff = true)
    (h0 : m.rg off = 0) : (m.raiseEv off bits).rg off = bits := by
  rw [Mod.raiseEv_of_zero hvec hb hs h0, Mod.rg, Mod.msix_reg]
  exact (m.rg_rput_same off bits).trans (Nat.mod_eq_of_lt hlt)

/-- A register that leaves zero sends its vector, once, with relaxed ordering clear (R215, R381). -/
theorem Mod.raiseEv_sends (hvec : eventVec off = some voff) (hb : bits ≠ 0) (hs : m.reg.sound voff = true) (h0 : m.rg off = 0)
    (hfree : (!m.masked 0 (m.rg voff) && m.canSend 0) = true) :
    (m.raiseEv off bits).host.sent = (0, m.rg voff) :: m.host.sent ∧
      (m.raiseEv off bits).host.writes = ⟨0, m.msixEntry 0 (m.rg voff * 16) + 2 ^ 32 * m.msixEntry 0 (m.rg voff * 16 + 4), 4, false,
        some (m.rg voff)⟩ :: m.host.writes := by
  rw [Mod.raiseEv_of_zero hvec hb hs h0, Mod.msix_free (m := m.rput off bits) hfree]
  exact ⟨rfl, rfl⟩

/-- A vector that is masked, or whose message cannot leave, waits (R380, R381). -/
theorem Mod.raiseEv_pends (hvec : eventVec off = some voff) (hb : bits ≠ 0) (hs : m.reg.sound voff = true) (h0 : m.rg off = 0)
    (hheld : (!m.masked 0 (m.rg voff) && m.canSend 0) = false) :
    (m.raiseEv off bits).host.sent = m.host.sent ∧ (m.raiseEv off bits).host.writes = m.host.writes ∧
      (0, m.rg voff) ∈ (m.raiseEv off bits).host.pba := by
  rw [Mod.raiseEv_of_zero hvec hb hs h0]
  exact Mod.msix_held (m := m.rput off bits) hheld

end

/-! Writes of PF registers, by the kind of register (R382, R385, R387). -/

/-- No register is shut while BAR2 and the closed blocks answer (R347, R409). -/
theorem Mod.shut_of_opened {m : Mod} {off : Nat} (h : m.opened = true) (hoff : off < 0x900000) : m.shut off = false := by
  simp [Mod.shut, h, hoff]

/-- A register access of the PF carries the low 32 bits of its value. -/
theorem State.pfWrite_word {s : State} {off : Nat} (v : Nat) (hr : s.m.hostReach 0 = true) (hq : s.m.sleepers = []) (hoff : off % 4 = 0)
    (hopen : s.m.shut off = false) (hplain : aliasOf off = none) :
    s.pfWrite off v = (s.writeReg off (v % 2 ^ 32) (2 ^ 32 - 1)).on fun m => m.answer [] false := by
  have hbytes : natLE 4 v = natLE 4 (v % 2 ^ 32) := (natLE_mod 4 v).symm
  have hsame : s.pfWrite off v = s.pfWrite off (v % 2 ^ 32) := by simp only [State.pfWrite, State.bar0, hbytes]
  have hv : leNat (natLE 4 (v % 2 ^ 32)) = v % 2 ^ 32 := (leNat_natLE 4 _).trans (Nat.mod_mod _ _)
  rw [hsame, State.pfWrite_register hr hq hoff hopen hplain hv, beMask_all]

/-- The offset holds a register of WO fields alone, whose write is a command (R387). -/
abbrev commandReg (off wo : Nat) : Prop :=
  regRow? off = some { wo := wo } ∧ wo &&& (2 ^ 32 - 1) ≠ 0 ∧ off % 4 = 0 ∧ aliasOf off = none ∧ isLo off = false ∧ isHi off = false ∧
    off ≠ mbLock ∧ off ≠ 0x100010 ∧ ¬ (0x600180 ≤ off ∧ off < 0x600200 ∧ off % 4 = 0)

/-- A write of a command register stores nothing and acts. -/
theorem State.pfWrite_command {s : State} {off wo v : Nat} (h : commandReg off wo) (hv : v < 2 ^ 32) (hr : s.m.hostReach 0 = true)
    (hq : s.m.sleepers = []) (hopen : s.m.shut off = false) : s.pfWrite off v = (s.act off v).on fun m => m.answer [] false := by
  obtain ⟨hrow, hwo, hoff, hplain, hlo, hhi, hmb, hsleep, hport⟩ := h
  have hstore : s.on (fun m => m.regStore off v (2 ^ 32 - 1)) = s := by simp [State.on, Mod.regStore, hrow]
  have hword : v &&& (2 ^ 32 - 1) = v := by rw [Nat.and_two_pow_sub_one_eq_mod, Nat.mod_eq_of_lt hv]
  have hact : s.writeReg off v (2 ^ 32 - 1) = s.act off v := by
    simp only [State.writeReg, hrow, hlo, hhi, hmb, hsleep, hport, hwo, hstore, hword]
    simp
  rw [State.pfWrite_word v hr hq hoff hopen hplain, Nat.mod_eq_of_lt hv, hact]

theorem State.writeReg_lo {s : State} {off mask : Nat} (v : Nat) (hm : mask ≠ 0) (hlo : isLo off = true) (hw : pairWritten off = true) :
    s.writeReg off v mask = s.on fun m => m.holdLo off v mask := by
  simp [State.writeReg, hm, hlo, hw]

theorem State.writeReg_hi {s : State} {off mask : Nat} (v : Nat) (hm : mask ≠ 0) (hlo : isLo off = false) (hhi : isHi off = true)
    (hw : pairWritten (off - 4) = true) : s.writeReg off v mask = s.on fun m => m.commitPair off v mask := by
  simp [State.writeReg, hm, hlo, hhi, hw]

/-! CMD_REJECT (R387). -/

theorem exec_cmdReject_safe {s : State} (hr : s.m.hostReach 0 = true) (hq : s.m.sleepers = []) :
    exec (.cmdReject 0) s = .next (s.on fun m => (m.raiseEv evSafe 1).answer [] false) := by
  have hreg : commandReg 0x100014 0xFFFF000F := by decide
  exact congrArg Host.Outcome.next (State.pfWrite_command hreg (by decide) hr hq (by simp [Mod.shut]))

theorem exec_cmdReject_floor {s : State} (hr : s.m.hostReach 0 = true) (hq : s.m.sleepers = []) :
    exec (.cmdReject 1) s = .next (s.on fun m => (m.raiseEv evCfg (2 ^ 4)).answer [] false) := by
  have hreg : commandReg 0x300030 0xFFFF0001 := by decide
  exact congrArg Host.Outcome.next (State.pfWrite_command hreg (by decide) hr hq (by simp [Mod.shut]))

theorem eventVectors : Claims.EventVectors := by
  refine ⟨fun m off voff bits hvec hb hlt hs => ⟨fun h0 hfree => ?_, fun h0 hheld => ?_, fun hne => ?_⟩,
    fun s hr hq hsend => ⟨fun h0 hs hmask => ?_, fun hne => ?_⟩⟩
  · obtain ⟨hsent, hwrites⟩ := Mod.raiseEv_sends hvec hb hs h0 hfree
    exact ⟨hsent, hwrites, Mod.rg_raiseEv_of_zero hvec hb hlt hs h0⟩
  · obtain ⟨hsent, hwrites, hpba⟩ := Mod.raiseEv_pends hvec hb hs h0 hheld
    exact ⟨hsent, hwrites, hpba, Mod.rg_raiseEv_of_zero hvec hb hlt hs h0⟩
  · rw [Mod.raiseEv_of_set hne]
    exact ⟨rfl, (m.rg_rput_same off _).trans (Nat.mod_eq_of_lt (Nat.or_lt_two_pow (m.rg_lt off) hlt))⟩
  · obtain ⟨hsent, -⟩ := Mod.raiseEv_sends (m := s.m) (off := evSafe) (bits := 1) rfl (by decide) hs h0 (by rw [hmask, hsend]; rfl)
    exact ⟨_, exec_cmdReject_safe hr hq, hsent⟩
  · have hquiet : s.m.raiseEv evSafe 1 = s.m.rput evSafe (s.m.rg evSafe ||| 1) := Mod.raiseEv_of_set hne
    refine ⟨_, exec_cmdReject_safe hr hq, ?_⟩
    simp [hquiet]

/-! CLEAR_HALT (R394). -/

/-- Marking Groomers of a list marks those, and no other. -/
theorem Mod.g_markClear (l : List Nat) (m : Mod) (k : Nat) :
    (l.foldl (fun m d => m.gput d { m.g d with clear := true }) m).g k = { m.g k with clear := l.contains k || (m.g k).clear } := by
  induction l generalizing m with
  | nil => simp
  | cons d l ih =>
    rw [List.foldl_cons, ih, Mod.g_gput]
    by_cases hk : k = d
    · simp [hk]
    · simp [hk]

theorem Mod.markClear_frame (l : List Nat) (m : Mod) :
    (l.foldl (fun m d => m.gput d { m.g d with clear := true }) m).reg = m.reg ∧
      (l.foldl (fun m d => m.gput d { m.g d with clear := true }) m).mem = m.mem := by
  induction l generalizing m with
  | nil => exact ⟨rfl, rfl⟩
  | cons d l ih => exact ih _

theorem bitsOf_contains {n k : Nat} (x : Nat) (hk : k < n) : (bitsOf n x).contains k = x.testBit k := by
  rw [Bool.eq_iff_iff]
  simp [bitsOf, hk]

theorem exec_clearHalt {s : State} (mask : Nat) (hf : s.hostFree) :
    exec (.clearHalt mask) s = .next (s.on fun m => (m.clearHalt (mask % 16)).answer [] false) := by
  obtain ⟨hopen, hr, hq⟩ := hf
  have hreg : commandReg 0x800044 0xF := by decide
  have hact : s.act 0x800044 (mask % 16) = s.on fun m => m.clearHalt (mask % 16) :=
    congrArg (fun x => s.on fun m => m.clearHalt x) (Nat.mod_mod mask 16)
  have hw := State.pfWrite_command hreg (show mask % 16 < 2 ^ 32 by omega) hr hq (Mod.shut_of_opened hopen (by decide))
  rw [hact] at hw
  exact congrArg Host.Outcome.next hw

/-! GRM_POSITION (R268, R385, R394). -/

theorem Mod.gPos_gSetPos_same (m : Mod) {d t e : Nat} (ht : t < 2 ^ 48) (he : e < 4096) : (m.gSetPos d t e).gPos d = (t, e) := by
  have hlo : (m.gSetPos d t e).rg (0x800000 + 16 * d) = t % 2 ^ 32 := by
    rw [Mod.gSetPos, Mod.rg_rput_other _ _ (by omega), Mod.rg_rput_same, Nat.mod_mod]
  have hhi : (m.gSetPos d t e).rg (0x800004 + 16 * d) = (fld t 47 32 + 2 ^ 16 * (e % 4096)) % 2 ^ 32 := Mod.rg_rput_same _ _ _
  simp only [Mod.gPos, hlo, hhi, fld_eq, Prod.mk.injEq]
  omega

theorem Mod.gPos_gSetPos_other (m : Mod) {d k : Nat} (t e : Nat) (h : k ≠ d) : (m.gSetPos d t e).gPos k = m.gPos k := by
  have hkeep : ∀ o, o ≠ 0x800000 + 16 * d → o ≠ 0x800004 + 16 * d → (m.gSetPos d t e).rg o = m.rg o := fun o h1 h2 => by
    rw [Mod.gSetPos, Mod.rg_rput_other _ _ h2, Mod.rg_rput_other _ _ h1]
  simp only [Mod.gPos]
  rw [hkeep _ (by omega) (by omega), hkeep _ (by omega) (by omega)]

/-- A position that moves changes the Groomer of its die: what it received and its window go (R268), and no register but the position. -/
theorem Mod.gMove_eq (m : Mod) (d t e : Nat) : ∃ g : Groomer, g.cur = none ∧ g.inq = [] ∧ g.win = [] ∧
    m.gMove d t e = (m.gput d g).gSetPos d t e := by
  unfold Mod.gMove Mod.gDrop
  dsimp only
  split
  · exact ⟨_, rfl, rfl, rfl, rfl⟩
  · refine ⟨{ (m.gput d { m.g d with win := [], inq := [], cur := none }).g d with partialStep := false, mismatch := false }, by simp, by simp,
      by simp, ?_⟩
    simp [Mod.gput]

theorem Mod.heldLo_holdLo (m : Mod) (off : Nat) {v : Nat} (hv : v < 2 ^ 32) :
    (m.holdLo off v (2 ^ 32 - 1)).heldLo off = (v, 2 ^ 32 - 1) := by
  have hold : ∀ o : Option (BitVec 32), (o.map fun w => w.toNat).getD 0 < 2 ^ 32 := fun o => by
    cases o with
    | none => decide
    | some w => exact w.isLt
  have hones : ∀ a : Nat, BitVec.ofNat 32 (a ||| (2 ^ 32 - 1)) = BitVec.allOnes 32 := fun a => by
    rw [BitVec.ofNat_or]
    exact BitVec.or_allOnes
  have hoff : off ≠ off + 1 := by omega
  simp only [Mod.heldLo, Mod.holdLo, tget?_tset_same, tget?_tset_other _ _ hoff, mergeBits_word (hold _) hv, hones, Option.map_some,
    Option.getD_some, BitVec.toNat_ofNat, Nat.mod_eq_of_lt hv]
  rfl

/-- The registers of a pair of GRM_POSITION. -/
theorem grmPosition_pair : ∀ d, d < 4 →
    isLo (0x800000 + 16 * d) = true ∧ pairWritten (0x800000 + 16 * d) = true ∧ isLo (0x800004 + 16 * d) = false ∧
      aliasOf (0x800000 + 16 * d) = none ∧ aliasOf (0x800004 + 16 * d) = none := by
  decide

/-- The module with other held halves of registers, and another host interface. -/
def Mod.beside (m : Mod) (host : HostIf) (hold : Tbl (BitVec 32)) : Mod := { m with host := host, reg := { m.reg with hold := hold } }

/-- Both halves of a written position are its fields, whatever stood in the register (R394). -/
theorem Mod.commitPair_position {m : Mod} {d v : Nat} (hd : d < 4)
    (hheld : m.heldLo (0x800000 + 16 * d) = (fld v 31 0, 2 ^ 32 - 1)) : ∃ hold,
    m.commitPair (0x800004 + 16 * d) (fld v 63 32) (2 ^ 32 - 1) = (m.beside m.host hold).setPosition d (fld v 47 0) (fld v 59 48) := by
  have hlo : 0x800004 + 16 * d - 4 = 0x800000 + 16 * d := by omega
  have hdie : (0x800000 + 16 * d - 0x800000) / 16 = d := by omega
  have hin : 0x800000 ≤ 0x800000 + 16 * d ∧ 0x800000 + 16 * d < 0x800040 := by omega
  have hmask : (2 ^ 32 - 1) &&& 0x0FFFFFFF = 2 ^ 28 - 1 := by decide
  have hlow : mergeBits (m.rg (0x800000 + 16 * d)) (fld v 31 0) (2 ^ 32 - 1) = fld v 31 0 :=
    mergeBits_word (m.rg_lt _) (Nat.mod_lt _ (by decide))
  have hstep : fld v 31 0 + 2 ^ 32 * fld (mergeBits (m.rg (0x800004 + 16 * d)) (fld v 63 32) (2 ^ 28 - 1)) 15 0 = fld v 47 0 := by
    simp only [mergeBits_low, fld_eq]
    omega
  have hentry : fld (mergeBits (m.rg (0x800004 + 16 * d)) (fld v 63 32) (2 ^ 28 - 1)) 27 16 = fld v 59 48 := by
    simp only [mergeBits_low, fld_eq]
    omega
  unfold Mod.commitPair
  simp only [hlo, hheld, hdie, if_pos hin, hmask, hlow, hstep, hentry]
  exact ⟨_, rfl⟩

/-- GRM_POSITION_WRITE writes a position; what the held halves and the host interface are by then decides nothing. -/
theorem exec_grmPositionWrite {s : State} {d : Nat} (v : Nat) (hd : d < 4) (hf : s.hostFree) :
    ∃ host hold, exec (.grmPositionWrite d v) s =
      .next (s.on fun m => ((m.beside host hold).setPosition d (fld v 47 0) (fld v 59 48)).answer [] false) := by
  obtain ⟨hopen, hr, hq⟩ := hf
  obtain ⟨hlo, hpair, hnot, hplain, hplain'⟩ := grmPosition_pair d hd
  have hback : 0x800004 + 16 * d - 4 = 0x800000 + 16 * d := by omega
  have hhi : isHi (0x800004 + 16 * d) = true := by
    rw [isHi, hback, hlo]
    exact Bool.and_true _ ▸ decide_eq_true (by omega)
  have hword : ∀ hi lo, hi + 1 - lo = 32 → fld v hi lo % 2 ^ 32 = fld v hi lo := fun hi lo h => by
    rw [fld_eq, h, Nat.mod_mod]
  -- the low half is held
  have h1 := State.pfWrite_word (fld v 31 0) hr hq (by omega) (Mod.shut_of_opened hopen (by omega)) hplain
  rw [State.writeReg_lo _ (by decide) hlo hpair, hword _ _ rfl] at h1
  generalize hs1 : s.pfWrite (0x800000 + 16 * d) (fld v 31 0) = s1 at h1
  have hheld : s1.m.heldLo (0x800000 + 16 * d) = (fld v 31 0, 2 ^ 32 - 1) := by
    rw [h1]
    exact s.m.heldLo_holdLo _ (Nat.mod_lt _ (by decide))
  -- the high half commits both
  have h2 := State.pfWrite_word (s := s1) (off := 0x800004 + 16 * d) (fld v 63 32) (by rw [h1]; exact hr) (by rw [h1]; exact hq) (by omega)
    (Mod.shut_of_opened (by rw [h1]; exact hopen) (by omega)) hplain'
  rw [State.writeReg_hi _ (by decide) hnot hhi (hback ▸ hpair), hword _ _ rfl] at h2
  obtain ⟨hold, hset⟩ := Mod.commitPair_position hd hheld
  have hexec : exec (.grmPositionWrite d v) s = .next (s1.pfWrite (0x800004 + 16 * d) (fld v 63 32)) := by
    rw [← hs1]
    exact congrArg Host.Outcome.next (if_pos hd)
  refine ⟨s1.m.host, hold, ?_⟩
  rw [hexec, h2, State.on, State.on, hset, h1]
  rfl

/-- A position written for a die of a running command is refused with its bit of GRM_EVENT (R394). -/
theorem Mod.setPosition_refused {m : Mod} {d : Nat} (t e : Nat) (hrun : m.inRunSet d = true) :
    m.setPosition d t e = m.raiseEv evGrm (2 ^ (8 + d)) := if_pos hrun

/-- A position that is stored is the step written and its entry, or entry 0 where the schedule ends before; the Groomer drops what it holds, and
the Groomers of the other dies keep theirs (R394). -/
theorem Mod.setPosition_stored {m : Mod} {d t e : Nat} (hrun : m.inRunSet d = false) (ht : t < 2 ^ 48) (he : e < 4096) :
    (m.setPosition d t e).gPos d = (t, if e < m.gEntries d then e else 0) ∧ ((m.setPosition d t e).g d).cur = none ∧
      ((m.setPosition d t e).g d).inq = [] ∧ ((m.setPosition d t e).g d).win = [] ∧
      ∀ k, k ≠ d → (m.setPosition d t e).g k = m.g k ∧ (m.setPosition d t e).gPos k = m.gPos k := by
  obtain ⟨g, hcur, hinq, hwin, hmove⟩ := m.gMove_eq d t (if e < m.gEntries d then e else 0)
  have hset : m.setPosition d t e = (m.gput d g).gSetPos d t (if e < m.gEntries d then e else 0) :=
    (if_neg (by simp [hrun])).trans hmove
  have hg : ∀ k, ((m.gput d g).gSetPos d t (if e < m.gEntries d then e else 0)).g k = (m.gput d g).g k := fun _ => rfl
  rw [hset]
  simp only [hg, Mod.g_gput_same]
  refine ⟨Mod.gPos_gSetPos_same _ ht (by split <;> omega), hcur, hinq, hwin, fun k hk => ⟨?_, Mod.gPos_gSetPos_other _ _ _ hk⟩⟩
  rw [Mod.g_gput, if_neg hk]

theorem groomerRegisters : Claims.GroomerRegisters := by
  intro s d v hd hf hp
  obtain ⟨host, hold, hexec⟩ := exec_grmPositionWrite v hd hf
  refine ⟨fun hrun => ⟨_, hexec, ?_⟩, fun hrun => ⟨_, hexec, ?_⟩, fun mask => ⟨_, exec_clearHalt mask hf, ?_⟩⟩
  · obtain ⟨hbit, -, hgrm, hregs⟩ := Mod.raiseEv_bit (m := s.m.beside host hold) evGrm (i := 8 + d) (by omega) hp
    have hset := Mod.setPosition_refused (m := s.m.beside host hold) (fld v 47 0) (fld v 59 48) hrun
    rw [← hset] at hbit hgrm hregs
    exact ⟨hbit, hregs, hgrm⟩
  · obtain ⟨hpos, hcur, hinq, hwin, hother⟩ := Mod.setPosition_stored (m := s.m.beside host hold) (t := fld v 47 0) (e := fld v 59 48) hrun
      (Nat.mod_lt _ (by decide)) (Nat.mod_lt _ (by decide))
    exact ⟨hpos, hcur, hinq, hwin, fun k _ hk => hother k hk⟩
  · obtain ⟨hreg, hmem⟩ := Mod.markClear_frame (bitsOf 4 (mask % 16)) s.m
    refine ⟨fun k hk => ?_, hreg, hmem⟩
    have hg := Mod.g_markClear (bitsOf 4 (mask % 16)) s.m k
    rw [bitsOf_contains _ hk, show (16 : Nat) = 2 ^ 4 from rfl, Nat.testBit_mod_two_pow, decide_eq_true hk, Bool.true_and] at hg
    exact hg

/-! The sleep floors (R389, Table 14.6). -/

/-- A die is woken to its floor where it stands below it, or is on its way below it. -/
def Mod.floorAt (m : Mod) (d : Nat) : Mod :=
  let f := m.floorOf d
  if f ≠ 0 ∧ !(m.ld.phase == 7 && decide (1 ≤ d) && decide (d ≤ 3)) ∧
      ((m.die d).st < f ∨ (m.die d).entering.any (fun e => decide (e < f))) then m.wakeTo d f
  else m

theorem Mod.floors_eq (m : Mod) : m.floors = (List.range 6).foldl Mod.floorAt m := rfl

/-- A wake changes the die it wakes, and no other. -/
theorem Mod.die_wakeTo_other (m : Mod) {d e : Nat} (st : Nat) (h : e ≠ d) : (m.wakeTo d st).die e = m.die e := by
  unfold Mod.wakeTo
  dsimp only
  split
  · exact m.die_dput_other _ h
  split
  · rfl
  · exact m.die_dput_other _ h

theorem Mod.floorAt_frame (m : Mod) (d : Nat) : (m.floorAt d).reg = m.reg ∧ (m.floorAt d).ld = m.ld ∧ (m.floorAt d).mem = m.mem ∧
    (m.floorAt d).dies.length = m.dies.length ∧ ∀ e, e ≠ d → (m.floorAt d).die e = m.die e := by
  unfold Mod.floorAt
  dsimp only
  split
  · refine ⟨by simp, by simp, by simp, ?_, fun e he => m.die_wakeTo_other _ he⟩
    unfold Mod.wakeTo
    dsimp only
    (repeat' split) <;> simp [Mod.dput]
  · exact ⟨rfl, rfl, rfl, rfl, fun _ _ => rfl⟩

/-- A die that stands still below its floor starts to wake to it; one at or above its floor does not. -/
theorem Mod.waking_floorAt {m : Mod} {d : Nat} (hphase : m.ld.phase ≠ 7) (hd : d < m.dies.length) (hin : (m.die d).entering = none)
    (hw : (m.die d).waking = none) :
    ((m.floorAt d).die d).waking = if (m.die d).st < m.floorOf d then some (m.floorOf d) else none := by
  by_cases hst : (m.die d).st < m.floorOf d
  · have hbelow : m.floorAt d = m.wakeTo d (m.floorOf d) := by
      refine if_pos ⟨by omega, ?_, Or.inl hst⟩
      simp [hphase]
    have hwake : m.wakeTo d (m.floorOf d) = m.dput d { m.die d with waking := some (m.floorOf d) } := by
      simp [Mod.wakeTo, hin, hw, Nat.not_le.2 hst]
    rw [hbelow, hwake, m.die_dput _ hd, if_pos hst]
  · have hstay : m.floorAt d = m := if_neg (by simp [hst, hin])
    rw [hstay, hw, if_neg hst]

theorem Mod.foldl_floorAt_frame (l : List Nat) (m : Mod) : (l.foldl Mod.floorAt m).reg = m.reg ∧ (l.foldl Mod.floorAt m).mem = m.mem ∧
    ∀ e, e ∉ l → (l.foldl Mod.floorAt m).die e = m.die e := by
  induction l generalizing m with
  | nil => exact ⟨rfl, rfl, fun _ _ => rfl⟩
  | cons d l ih =>
    obtain ⟨hreg, -, hmem, -, hdie⟩ := m.floorAt_frame d
    obtain ⟨ihreg, ihmem, ihdie⟩ := ih (m.floorAt d)
    refine ⟨ihreg.trans hreg, ihmem.trans hmem, fun e he => ?_⟩
    rw [List.mem_cons, not_or] at he
    exact (ihdie e he.2).trans (hdie e he.1)

/-- Each die of a list meets its floor, whatever the others do. -/
theorem Mod.waking_foldl_floorAt {l : List Nat} {m : Mod} {d : Nat} (hl : l.Nodup) (hmem : d ∈ l) (hphase : m.ld.phase ≠ 7)
    (hd : d < m.dies.length) (hin : (m.die d).entering = none) (hw : (m.die d).waking = none) :
    ((l.foldl Mod.floorAt m).die d).waking = if (m.die d).st < m.floorOf d then some (m.floorOf d) else none := by
  induction l generalizing m with
  | nil => cases hmem
  | cons x l ih =>
    obtain ⟨hx, hl⟩ := List.nodup_cons.mp hl
    rcases List.mem_cons.mp hmem with rfl | hdl
    · obtain ⟨-, -, hrest⟩ := (m.floorAt d).foldl_floorAt_frame l
      rw [List.foldl_cons, hrest d hx]
      exact Mod.waking_floorAt hphase hd hin hw
    · obtain ⟨hreg, hld, -, hlen, hdie⟩ := m.floorAt_frame x
      have hsame : (m.floorAt x).die d = m.die d := hdie d (fun h => hx (h ▸ hdl))
      have hfloor : (m.floorAt x).floorOf d = m.floorOf d := by simp only [Mod.floorOf, Mod.rg, hreg]
      have h := ih (m := m.floorAt x) hl hdl (by rw [hld]; exact hphase) (by rw [hlen]; exact hd) (by rw [hsame]; exact hin)
        (by rw [hsame]; exact hw)
      rw [List.foldl_cons, h, hsame, hfloor]

theorem Mod.floors_frame (m : Mod) : m.floors.mem = m.mem ∧ ∀ k, m.floors.rg k = m.rg k := by
  rw [Mod.floors_eq]
  obtain ⟨hreg, hmem, -⟩ := m.foldl_floorAt_frame (List.range 6)
  exact ⟨hmem, fun k => congrArg (RegFile.get · k) hreg⟩

theorem Mod.waking_floors {m : Mod} {d : Nat} (hd : d < 6) (hphase : m.ld.phase ≠ 7) (hlen : m.dies.length = 6)
    (hin : (m.die d).entering = none) (hw : (m.die d).waking = none) :
    (m.floors.die d).waking = if (m.die d).st < m.floorOf d then some (m.floorOf d) else none := by
  rw [Mod.floors_eq]
  exact Mod.waking_foldl_floorAt List.nodup_range (List.mem_range.mpr hd) hphase (by omega) hin hw

/-! SAFE_SLEEP_CTRL (R389). -/

theorem fld_pair (x d : Nat) : fld x (2 * d + 1) (2 * d) = x / 4 ^ d % 4 := by
  have hw : 2 * d + 1 + 1 - 2 * d = 2 := by omega
  rw [fld_eq, hw, Nat.pow_mul, show (2 : Nat) ^ 2 = 4 from rfl]

theorem eq_of_lt_six {d : Nat} (hd : d < 6) : d = 0 ∨ d = 1 ∨ d = 2 ∨ d = 3 ∨ d = 4 ∨ d = 5 := by omega

/-- The six digits to the base 4 of a number stand in its low 12 bits. -/
theorem digit4_mod {d : Nat} (x : Nat) (hd : d < 6) : x % 2 ^ 12 / 4 ^ d % 4 = x / 4 ^ d % 4 := by
  obtain rfl | rfl | rfl | rfl | rfl | rfl := eq_of_lt_six hd <;> omega

/-- A sum of six digits to the base 4 holds each of them. -/
theorem digit4_sum (c : Nat → Nat) (hc : ∀ d, c d ≤ 2) {d : Nat} (hd : d < 6) :
    ((List.range 6).map fun i => c i * 4 ^ i).sum < 2 ^ 12 ∧ ((List.range 6).map fun i => c i * 4 ^ i).sum / 4 ^ d % 4 = c d := by
  have h0 := hc 0; have h1 := hc 1; have h2 := hc 2; have h3 := hc 3; have h4 := hc 4; have h5 := hc 5
  simp only [List.range_succ, List.range_zero, List.nil_append, List.cons_append, List.map_cons, List.map_nil, List.sum_cons, List.sum_nil]
  obtain rfl | rfl | rfl | rfl | rfl | rfl := eq_of_lt_six hd <;> omega

/-- SAFE_SLEEP_CTRL as it stores a value: each die's floor, at most 2 (Table 14.6). -/
def sleepCtrl (v : Nat) : Nat := ((List.range 6).map fun d => min 2 (v / 4 ^ d % 4) * 4 ^ d).sum

theorem Mod.stored_sleepCtrl (m : Mod) (v : Nat) : m.stored 0x100010 v = sleepCtrl v := by
  change ((List.range 6).map fun d => min 2 (fld v (2 * d + 1) (2 * d)) * 4 ^ d).sum = _
  simp only [fld_pair, sleepCtrl]

theorem sleepCtrl_mod (v : Nat) : sleepCtrl (v % 2 ^ 12) = sleepCtrl v := by
  refine congrArg List.sum (List.map_congr_left fun d hd => ?_)
  rw [digit4_mod v (List.mem_range.mp hd)]

theorem Mod.regStore_sleepCtrl (m : Mod) (v : Nat) : m.regStore 0x100010 v (2 ^ 32 - 1) = m.rput 0x100010 (sleepCtrl v) := by
  have hrow : regRow? 0x100010 = some { rwp := 0xFFF, keep := 0xFFF } := by decide
  have hkey : m.rkey 0x100010 = 0x100010 := rfl
  have hbits : (2 ^ 32 - 1) &&& (0 ||| 0xFFF) = 2 ^ 12 - 1 := by decide
  have hmerge : (mergeBits (m.rg 0x100010) v (2 ^ 12 - 1)) % 2 ^ 12 = v % 2 ^ 12 := by
    rw [mergeBits_low]
    omega
  have hstored : m.stored 0x100010 (mergeBits (m.rg 0x100010) v (2 ^ 12 - 1)) = sleepCtrl v := by
    rw [Mod.stored_sleepCtrl, ← sleepCtrl_mod, hmerge, sleepCtrl_mod]
  simp only [Mod.regStore, hrow, hbits, hkey]
  exact (if_neg (by decide)).trans (congrArg _ hstored)

theorem Mod.floorOf_sleepCtrl (m : Mod) (v : Nat) {d : Nat} (hd : d < 6) :
    (m.rput 0x100010 (sleepCtrl v)).floorOf d = min 2 (v / 4 ^ d % 4) := by
  obtain ⟨hlt, hdigit⟩ := digit4_sum (fun d => min 2 (v / 4 ^ d % 4)) (fun _ => Nat.min_le_left _ _) hd
  have hword : sleepCtrl v % 2 ^ 32 = sleepCtrl v := Nat.mod_eq_of_lt (Nat.lt_trans hlt (by decide))
  rw [Mod.floorOf, Mod.rg_rput_same, hword, fld_pair]
  exact (congrArg (Nat.min 2) hdigit).trans (Nat.min_eq_right (Nat.min_le_left _ _))

theorem exec_safeSleepCtrlWrite {s : State} (v : Nat) (hr : s.m.hostReach 0 = true) (hq : s.m.sleepers = []) :
    exec (.safeSleepCtrlWrite v) s = .next (s.on fun m => (m.rput 0x100010 (sleepCtrl v)).floors.answer [] false) := by
  have hrow : regRow? 0x100010 = some { rwp := 0xFFF, keep := 0xFFF } := by decide
  have hplain : isLo 0x100010 = false ∧ isHi 0x100010 = false ∧ 0x100010 ≠ mbLock := by decide
  have hword : sleepCtrl (v % 2 ^ 32) = sleepCtrl v := by
    rw [← sleepCtrl_mod, Nat.mod_mod_of_dvd _ (by decide), sleepCtrl_mod]
  obtain ⟨hlo, hhi, hmb⟩ := hplain
  have hw : s.pfWrite 0x100010 v = _ := State.pfWrite_word v hr hq rfl (by simp [Mod.shut]) (by decide)
  have hset : s.writeReg 0x100010 (v % 2 ^ 32) (2 ^ 32 - 1) = s.on fun m => (m.rput 0x100010 (sleepCtrl v)).floors := by
    simp only [State.writeReg, hrow, hlo, hhi, hmb, State.on, Mod.regStore_sleepCtrl, hword]
    simp
  rw [hset] at hw
  exact congrArg Host.Outcome.next hw

theorem safeRegisters : Claims.SafeRegisters := by
  intro s v hr hq hphase hlen hp
  refine ⟨⟨_, exec_safeSleepCtrlWrite v hr hq, ?_⟩, ⟨_, exec_cmdReject_safe hr hq, ?_⟩, ⟨_, exec_cmdReject_floor hr hq, ?_⟩⟩
  · obtain ⟨hmem, hrg⟩ := (s.m.rput 0x100010 (sleepCtrl v)).floors_frame
    refine ⟨fun d hd => ?_, hmem, fun k hk => (hrg k).trans (s.m.rg_rput_other _ hk), fun d hd hin hw => ?_⟩
    · rw [← s.m.floorOf_sleepCtrl v hd]
      exact congrArg (fun x => Nat.min 2 (fld x (2 * d + 1) (2 * d))) (hrg 0x100010)
    · rw [← s.m.floorOf_sleepCtrl v hd]
      exact Mod.waking_floors (m := s.m.rput 0x100010 (sleepCtrl v)) hd hphase hlen hin hw
  · obtain ⟨hbit, hmem, -, hregs⟩ := Mod.raiseEv_bit (m := s.m) evSafe (i := 0) (by decide) hp
    exact ⟨hbit, hmem, hregs⟩
  · obtain ⟨hbit, hmem, -, hregs⟩ := Mod.raiseEv_bit (m := s.m) evCfg (i := 4) (by decide) hp
    exact ⟨hbit, hmem, hregs⟩

/-- Settles O46: each command is one write of a register that nothing keeps waiting; a position and CLEAR_HALT change the Groomers named, a
sleep floor wakes the dies below it one after another, and an event register that leaves zero sends its vector or leaves it pending. -/
theorem commandRegisters : Obligations.CommandRegisters := ⟨groomerRegisters, safeRegisters, eventVectors⟩

end Sys2Proof.Machine
end
